-- ==== Sys2Proof/Word.lean ====
section
/-! DEFINITION. The wire's units: a byte and a two-byte field of a frame (spec/10, R201). -/

namespace Sys2Proof

/-- One byte of a frame. -/
abbrev Byte := BitVec 8

/-- A two-byte field of a frame, most significant byte first on the wire (R201). -/
abbrev Half := BitVec 16

end Sys2Proof
end

