-- ==== Sys2Proof/Config.lean ====
section
/-! DEFINITION. The numbers that the manual fixes for every part. It leaves no result of a command open, so there is no free
value. -/

namespace Sys2Proof.Config

/-- Contexts above the base that fill a stack (R65). -/
def stackCap : Nat := 4
/-- Entries of the Pending List (R70). -/
def pendingListCap : Nat := 32
/-- Records of the Report Queue (R193). -/
def reportCap : Nat := 64
/-- Frames of the Inbound Queue (R189). -/
def inboundCap : Nat := 16
/-- Power grants (R136). -/
def grantCount : Nat := 4
/-- Conditions of an open set (R101). -/
def openSetCap : Nat := 255
/-- Almost-full threshold after reset (R194). -/
def almostFullReset : Nat := 48
/-- Audit interval after reset, in seconds (R159). -/
def auditIntervalReset : Nat := 5
/-- Scan interval after reset, in milliseconds (R24). -/
def scanIntervalReset : Nat := 500
/-- Sensor answer timer, in milliseconds (R22). -/
def sensorAnswerMs : Nat := 3
/-- Ramp tick timer, in milliseconds (R51). -/
def rampTickMs : Nat := 100
/-- Energise timer, in milliseconds (R124). -/
def energiseMs : Nat := 400
/-- Hold timer of HOLDING, in milliseconds (R131). -/
def driveHoldMs : Nat := 9000
/-- Power wait timer, in milliseconds (R136). -/
def powerWaitMs : Nat := 30000
/-- Luminaire answer timer, in milliseconds (R147). -/
def luminaireAnswerMs : Nat := 8
/-- Gap timer, in milliseconds (R188). -/
def gapMs : Nat := 20
/-- Steps of one homing (R126). -/
def homingLimit : Nat := 255
/-- Steps of one search for a mark (R129). -/
def searchLimit : Nat := 12
/-- Difference between a level sent and a level answered that is still a match (R155). -/
def matchTolerance : Nat := 20
/-- Run count at which a ceiling channel can be stuck (R35). -/
def ceilingRunLimit : Nat := 50
/-- Run count at which a sky channel can be stuck, and at which the count saturates (R35). -/
def skyRunLimit : Nat := 300
/-- How many hand-offs of the Arbiter the model follows inside one another (assumption log 15). -/
def handDepth : Nat := 6

end Sys2Proof.Config
end

