-- ==== Sys2Proof/Syntax.lean ====
section
/-! DEFINITION. The commands of the part: one constructor of `Instr` for each row of spec/opcode_table.json, with the
payloads of the host commands at their wire widths (spec/10, R206). -/

namespace Sys2Proof

/-- A zone, 0–47 (R1). -/
abbrev ZoneId := Fin 48
/-- A bay, 0–15 (R1). -/
abbrev BayId := Fin 16
/-- A sensor channel, 0–63 (R1). -/
abbrev ChannelId := Fin 64
/-- A target, 0–63 (R2). -/
abbrev TargetId := Fin 64
/-- A luminaire's address on its line, 0–95 (R147). -/
abbrev Address := Fin 96

/-- The two luminaire lines (R147). -/
inductive LineId where
  | l0 | l1
  deriving DecidableEq, Repr

/-- What every frame from the host carries beside its kind code and payload: the urgent bit and the tag (R187, R202). -/
structure FrameHead where
  urgent : Bool
  tag : Byte
  deriving DecidableEq, Repr

/-- Payload of CONFIGURE ZONE (R206). -/
structure ZonePayload where
  zone : Byte
  targetLux : Half
  deadband : Half
  minLevel : Half
  maxLevel : Half
  upRate : Half
  downRate : Half
  fallback : Half
  nominalGain : Half
  ceilingSensor : Byte
  readingInterval : Half
  deriving DecidableEq, Repr

/-- Payload of CONFIGURE BAY (R206). -/
structure BayPayload where
  bay : Byte
  skySensor : Byte
  glareOn : Half
  glareOff : Half
  glareOnHold : Half
  glareOffHold : Half
  shadePresent : Byte
  openStop : Byte
  glareStop : Byte
  fallbackStop : Byte
  stepRate : Byte
  verify : Byte
  settleInterval : Byte
  deriving DecidableEq, Repr

/-- Payload of CONFIGURE SENSOR after its channel field (R206). -/
structure SensorPayload where
  used : Byte
  scale : Half
  shift : Byte
  interval : Half
  deriving DecidableEq, Repr

/-- Payload of CONFIGURE LUMINAIRE (R206). -/
structure LuminairePayload where
  line : Byte
  address : Byte
  zone : Byte
  trim : Half
  deriving DecidableEq, Repr

/-- Payload of SET RESPONSE (R206). -/
structure ResponsePayload where
  cls : Byte
  action : Byte
  alarm : Byte
  deriving DecidableEq, Repr

/-- Payload of REQUEST (R206). -/
structure RequestPayload where
  target : Byte
  level : Byte
  kind : Byte
  value : Half
  fade : Half
  hold : Half
  waitLimit : Byte
  identity : Half
  deriving DecidableEq, Repr

/-- A host command as a taken frame of good kind and length carries it (R202, R206). -/
inductive Command where
  | configureZone (p : ZonePayload)
  | configureBay (p : BayPayload)
  /-- CONFIGURE SENSOR whose channel field is not 0xFF. -/
  | configureSensor (channel : Byte) (p : SensorPayload)
  /-- CONFIGURE SENSOR with channel ALL, 0xFF. -/
  | configureSensorAll (p : SensorPayload)
  | configureLuminaire (p : LuminairePayload)
  | setResponse (p : ResponsePayload)
  | setLink (threshold audit : Byte)
  | enable (target : Byte)
  | disable (target : Byte)
  | request (p : RequestPayload)
  | release (identity : Half)
  | clearFault (target : Byte)
  | watch (target setting : Byte)
  | calibrate (first last settle : Byte)
  | stopShadesNow
  | stopSweepNow
  | stopSweepAfterZone
  | shadeHome (bay : Byte)
  | busHold (line : Byte)
  | busRelease (line : Byte)
  | queryTarget (index : Half)
  | queryZone (index : Half)
  | queryBay (index : Half)
  /-- QUERY SENSOR whose index is not 0x00FF. -/
  | querySensor (index : Half)
  /-- QUERY SENSOR with channel ALL, index 0x00FF. -/
  | querySensorAll
  /-- QUERY LUMINAIRE whose address byte is not 0xFF. -/
  | queryLuminaire (line address : Byte)
  /-- QUERY LUMINAIRE with the address ALL, 0xFF. -/
  | queryLuminaireAll (line : Byte)
  | queryFault (start target : Byte)
  | queryPending (index : Half)
  | querySweep (index : Half)
  | resetPart
  deriving DecidableEq, Repr

/-- How an answer arrives on a sensor or luminaire line: during the exchange or attempt it answers, with a good or a failed check,
or after that has ended (R22, R147; logs 32 and 33). -/
inductive Arrival where
  | good | failed | late
  deriving DecidableEq, Repr

/-- The commands that the part takes from outside: the rows of spec/opcode_table.json. A host command carries the head of
its frame and the fields of its payload; an event carries what the outside shows at it. -/
inductive Instr where
  | configureZone (h : FrameHead) (p : ZonePayload)
  | configureBay (h : FrameHead) (p : BayPayload)
  | configureSensor (h : FrameHead) (channel : Byte) (p : SensorPayload)
  | configureSensorAll (h : FrameHead) (p : SensorPayload)
  | configureLuminaire (h : FrameHead) (p : LuminairePayload)
  | setResponse (h : FrameHead) (p : ResponsePayload)
  | setLink (h : FrameHead) (threshold audit : Byte)
  | enable (h : FrameHead) (target : Byte)
  | disable (h : FrameHead) (target : Byte)
  | request (h : FrameHead) (p : RequestPayload)
  | release (h : FrameHead) (identity : Half)
  | clearFault (h : FrameHead) (target : Byte)
  | watch (h : FrameHead) (target setting : Byte)
  | calibrate (h : FrameHead) (first last settle : Byte)
  | stopShadesNow (h : FrameHead)
  | stopSweepNow (h : FrameHead)
  | stopSweepAfterZone (h : FrameHead)
  | shadeHome (h : FrameHead) (bay : Byte)
  | busHold (h : FrameHead) (line : Byte)
  | busRelease (h : FrameHead) (line : Byte)
  | queryTarget (h : FrameHead) (index : Half)
  | queryZone (h : FrameHead) (index : Half)
  | queryBay (h : FrameHead) (index : Half)
  | querySensor (h : FrameHead) (index : Half)
  | querySensorAll (h : FrameHead)
  | queryLuminaire (h : FrameHead) (line address : Byte)
  | queryLuminaireAll (h : FrameHead) (line : Byte)
  | queryFault (h : FrameHead) (start target : Byte)
  | queryPending (h : FrameHead) (index : Half)
  | querySweep (h : FrameHead) (index : Half)
  | resetPart (h : FrameHead)
  /-- A frame whose kind code names no command (R203). -/
  | unknownKind (h : FrameHead) (code : BitVec 7) (payload : List Byte)
  | rstNAsserted
  | rstNDeasserted
  /-- The bytes of a frame after its start and length (kind, tag, payload) and its two check bytes (R187). -/
  | frameReceived (body : List Byte) (check : Half)
  | gapTimerExpiry
  | hrdyAsserted
  | hrdyDeasserted
  | transmitStart
  | frameSent
  | scanTimerExpiry
  | owedScanStart
  /-- An answer on the sensor line: its channel number, raw count, and how it arrives (R22). -/
  | sensorAnswer (channel : Byte) (raw : Half) (arrival : Arrival)
  | sensorAnswerTimeout
  | rampTick (z : ZoneId)
  | settleTimerExpiry (z : ZoneId)
  | readingTimerExpiry (z : ZoneId)
  | glareHoldExpiry (b : BayId)
  /-- The hold timer of the context that carries the identity. -/
  | holdExpiry (identity : Half)
  /-- The wait timer of the entry that carries the identity. -/
  | waitExpiry (identity : Half)
  /-- With the levels that HOME and MARK show after the step, if the event makes one (R118). -/
  | stepEvent (b : BayId) (home : Bool) (mark : Option (Fin 15))
  /-- With the levels that HOME and MARK show at the event (R118). -/
  | energiseTimerExpiry (b : BayId) (home : Bool) (mark : Option (Fin 15))
  | driveHoldTimerExpiry (b : BayId)
  | powerWaitTimeout (b : BayId)
  /-- An answer on a luminaire line: its level and how it arrives (R147). -/
  | luminaireAnswer (l : LineId) (level : Half) (arrival : Arrival)
  | luminaireAnswerTimeout (l : LineId)
  | auditTimerExpiry (l : LineId)
  | updateTransactionStart (l : LineId)
  | audit (l : LineId)
  | phaseTimerExpiry
  | secondsCounterTick
  /-- A byte on the receive line and whether its stop bit was found at the marking level (R187). -/
  | byteTaken (b : Byte) (good : Bool)
  deriving DecidableEq, Repr

end Sys2Proof
end

