-- ==== Sys2Proof/WellFormed.lean ====
section
/-! DEFINITION. Which terms of `Instr` are the row they stand for: a frame's form (R187), and the payload values that tell
one row from another row of the same kind code (R203, R206, R208). -/

namespace Sys2Proof

/-- A kind code names a command: 0x01–0x13 (R202). -/
def commandCode (code : BitVec 7) : Bool := 1 ≤ code.toNat && code.toNat ≤ 0x13

/-- The check of a command before it is given to the part. -/
def WellFormed : Instr → Bool
  | .configureSensor _ channel _ => channel != 0xFF
  | .querySensor _ index => index != 0x00FF
  | .queryLuminaire _ _ address => address != 0xFF
  | .unknownKind _ code payload => !commandCode code && payload.length ≤ 48
  | .frameReceived body _ => 2 ≤ body.length && body.length ≤ 50
  | _ => true

end Sys2Proof
end

