-- ==== Sys2Proof/Decode.lean ====
section
/-! DEFINITION. The bytes of a frame from the host (spec/10): the CRC (R201), the kind codes and payload layouts (R202,
R206, R208), the decoder of a taken frame (R203), its encoder, and `decodeTableWord`. -/

namespace Sys2Proof

/-! ### Fields and bytes (R201) -/

/-- The two-byte field whose bytes are `hi` and `lo`, in the order of the wire. -/
def half (hi lo : Byte) : Half := hi ++ lo
/-- The byte of a two-byte field that is sent first. -/
def hiByte (h : Half) : Byte := h.extractLsb' 8 8
/-- The byte of a two-byte field that is sent last. -/
def loByte (h : Half) : Byte := h.extractLsb' 0 8
/-- A two-byte field as it is sent. -/
def halfBytes (h : Half) : List Byte := [hiByte h, loByte h]

/-- One bit of the CRC-16 of R201: polynomial x^16 + x^12 + x^5 + 1. -/
def crcBit (r : Half) : Half := if r.msb then (r <<< 1) ^^^ 0x1021 else r <<< 1
/-- One byte of the CRC-16, most significant bit first (R201). -/
def crcByte (r : Half) (b : Byte) : Half :=
  let r0 := r ^^^ (b ++ (0 : Byte))
  crcBit (crcBit (crcBit (crcBit (crcBit (crcBit (crcBit (crcBit r0)))))))
/-- The CRC-16 over bytes, from 0xFFFF, with no final inversion (R201). -/
def crc16 (bytes : List Byte) : Half := bytes.foldl crcByte 0xFFFF

/-! ### Frames -/

/-- A good frame as the stores keep it (R189): the urgent bit and kind code of its kind byte, its tag and its payload. -/
structure Frame where
  urgent : Bool
  code : BitVec 7
  tag : Byte
  payload : List Byte
  deriving DecidableEq, Repr

/-- The kind byte: the kind code in its low seven bits, the urgent bit in its top bit (R202). -/
def kindByte (urgent : Bool) (code : BitVec 7) : Byte := BitVec.ofBool urgent ++ code

/-- The frame whose kind, tag and payload are the given bytes (R187), or none for fewer than two bytes. -/
def frameOfBody : List Byte → Option Frame
  | kind :: tag :: payload => some ⟨kind.msb, kind.extractLsb' 0 7, tag, payload⟩
  | _ => none

/-- The bytes over which a frame's check is computed: length, kind, tag, payload (R187). -/
def checkedBytes (body : List Byte) : List Byte := BitVec.ofNat 8 body.length :: body

/-! ### Host commands -/

/-- Why the general decoding checks refuse a frame (R203). -/
inductive DecodeError where
  | unknownKind
  | badLength
  /-- A STOP condition or a QUERY object kind outside its codes. -/
  | badValue
  deriving DecidableEq, Repr

/-- Decodes CONFIGURE ZONE (R206). -/
def decodeConfigureZone : List Byte → Except DecodeError Command
  | [z, t1, t0, d1, d0, n1, n0, x1, x0, u1, u0, w1, w0, f1, f0, g1, g0, c, r1, r0] =>
    .ok (.configureZone ⟨z, half t1 t0, half d1 d0, half n1 n0, half x1 x0, half u1 u0, half w1 w0, half f1 f0,
      half g1 g0, c, half r1 r0⟩)
  | _ => .error .badLength

/-- Decodes CONFIGURE BAY (R206). -/
def decodeConfigureBay : List Byte → Except DecodeError Command
  | [b, s, n1, n0, f1, f0, p1, p0, q1, q0, h, o, g, k, r, v, i] =>
    .ok (.configureBay ⟨b, s, half n1 n0, half f1 f0, half p1 p0, half q1 q0, h, o, g, k, r, v, i⟩)
  | _ => .error .badLength

/-- Decodes CONFIGURE SENSOR: channel 0xFF is ALL (R206). -/
def decodeConfigureSensor : List Byte → Except DecodeError Command
  | [c, u, s1, s0, k, i1, i0] =>
    if c = 0xFF then .ok (.configureSensorAll ⟨u, half s1 s0, k, half i1 i0⟩)
    else .ok (.configureSensor c ⟨u, half s1 s0, k, half i1 i0⟩)
  | _ => .error .badLength

/-- Decodes CONFIGURE LUMINAIRE (R206). -/
def decodeConfigureLuminaire : List Byte → Except DecodeError Command
  | [l, a, z, t1, t0] => .ok (.configureLuminaire ⟨l, a, z, half t1 t0⟩)
  | _ => .error .badLength

/-- Decodes REQUEST (R206). -/
def decodeRequest : List Byte → Except DecodeError Command
  | [t, l, k, v1, v0, f1, f0, h1, h0, w, i1, i0] =>
    .ok (.request ⟨t, l, k, half v1 v0, half f1 f0, half h1 h0, w, half i1 i0⟩)
  | _ => .error .badLength

/-- Decodes a payload of one byte. -/
def decode1 (f : Byte → Except DecodeError Command) : List Byte → Except DecodeError Command
  | [a] => f a
  | _ => .error .badLength

/-- Decodes a payload of two bytes. -/
def decode2 (f : Byte → Byte → Except DecodeError Command) : List Byte → Except DecodeError Command
  | [a, b] => f a b
  | _ => .error .badLength

/-- Decodes a payload of three bytes. -/
def decode3 (f : Byte → Byte → Byte → Except DecodeError Command) : List Byte → Except DecodeError Command
  | [a, b, c] => f a b c
  | _ => .error .badLength

/-- The STOP condition codes of R205. -/
def decodeStop (c : Byte) : Except DecodeError Command :=
  match c.toNat with
  | 1 => .ok .stopShadesNow
  | 2 => .ok .stopSweepNow
  | 3 => .ok .stopSweepAfterZone
  | _ => .error .badValue

/-- The QUERY object kinds of R205, with the index's two bytes as R208 reads them. -/
def decodeQuery (kind i1 i0 : Byte) : Except DecodeError Command :=
  match kind.toNat with
  | 1 => .ok (.queryTarget (half i1 i0))
  | 2 => .ok (.queryZone (half i1 i0))
  | 3 => .ok (.queryBay (half i1 i0))
  | 4 => if half i1 i0 = 0x00FF then .ok .querySensorAll else .ok (.querySensor (half i1 i0))
  | 5 => if i0 = 0xFF then .ok (.queryLuminaireAll i1) else .ok (.queryLuminaire i1 i0)
  | 6 => .ok (.queryFault i1 i0)
  | 7 => .ok (.queryPending (half i1 i0))
  | 8 => .ok (.querySweep (half i1 i0))
  | _ => .error .badValue

/-- The general decoding checks on a taken frame up to its fields' ranges: kind, then length, then the codes that tell the
rows of one kind apart (R203). The ranges of the fields are checked where the command is carried out. -/
def decodeFrame (f : Frame) : Except DecodeError Command :=
  match f.code.toNat with
  | 0x01 => decodeConfigureZone f.payload
  | 0x02 => decodeConfigureBay f.payload
  | 0x03 => decodeConfigureSensor f.payload
  | 0x04 => decodeConfigureLuminaire f.payload
  | 0x05 => decode3 (fun c a m => .ok (.setResponse ⟨c, a, m⟩)) f.payload
  | 0x06 => decode2 (fun t a => .ok (.setLink t a)) f.payload
  | 0x07 => decode1 (fun t => .ok (.enable t)) f.payload
  | 0x08 => decode1 (fun t => .ok (.disable t)) f.payload
  | 0x09 => decodeRequest f.payload
  | 0x0A => decode2 (fun a b => .ok (.release (half a b))) f.payload
  | 0x0B => decode1 (fun t => .ok (.clearFault t)) f.payload
  | 0x0C => decode2 (fun t w => .ok (.watch t w)) f.payload
  | 0x0D => decode3 (fun a b c => .ok (.calibrate a b c)) f.payload
  | 0x0E => decode1 decodeStop f.payload
  | 0x0F => decode1 (fun b => .ok (.shadeHome b)) f.payload
  | 0x10 => decode1 (fun l => .ok (.busHold l)) f.payload
  | 0x11 => decode1 (fun l => .ok (.busRelease l)) f.payload
  | 0x12 => decode3 decodeQuery f.payload
  | 0x13 => if f.payload.isEmpty then .ok .resetPart else .error .badLength
  | _ => .error .unknownKind

/-- The kind code of a command (R202). -/
def Command.code : Command → BitVec 7
  | .configureZone _ => 0x01
  | .configureBay _ => 0x02
  | .configureSensor _ _ => 0x03
  | .configureSensorAll _ => 0x03
  | .configureLuminaire _ => 0x04
  | .setResponse _ => 0x05
  | .setLink _ _ => 0x06
  | .enable _ => 0x07
  | .disable _ => 0x08
  | .request _ => 0x09
  | .release _ => 0x0A
  | .clearFault _ => 0x0B
  | .watch _ _ => 0x0C
  | .calibrate _ _ _ => 0x0D
  | .stopShadesNow => 0x0E
  | .stopSweepNow => 0x0E
  | .stopSweepAfterZone => 0x0E
  | .shadeHome _ => 0x0F
  | .busHold _ => 0x10
  | .busRelease _ => 0x11
  | .queryTarget _ => 0x12
  | .queryZone _ => 0x12
  | .queryBay _ => 0x12
  | .querySensor _ => 0x12
  | .querySensorAll => 0x12
  | .queryLuminaire _ _ => 0x12
  | .queryLuminaireAll _ => 0x12
  | .queryFault _ _ => 0x12
  | .queryPending _ => 0x12
  | .querySweep _ => 0x12
  | .resetPart => 0x13

/-- The payload bytes of CONFIGURE SENSOR after its channel byte (R206). -/
def sensorBytes (p : SensorPayload) : List Byte :=
  p.used :: halfBytes p.scale ++ p.shift :: halfBytes p.interval

/-- The payload bytes of a command (R206, R208). -/
def Command.payload : Command → List Byte
  | .configureZone p =>
    p.zone :: halfBytes p.targetLux ++ halfBytes p.deadband ++ halfBytes p.minLevel ++ halfBytes p.maxLevel ++
      halfBytes p.upRate ++ halfBytes p.downRate ++ halfBytes p.fallback ++ halfBytes p.nominalGain ++
      p.ceilingSensor :: halfBytes p.readingInterval
  | .configureBay p =>
    p.bay :: p.skySensor :: halfBytes p.glareOn ++ halfBytes p.glareOff ++ halfBytes p.glareOnHold ++
      halfBytes p.glareOffHold ++ [p.shadePresent, p.openStop, p.glareStop, p.fallbackStop, p.stepRate, p.verify,
      p.settleInterval]
  | .configureSensor channel p => channel :: sensorBytes p
  | .configureSensorAll p => 0xFF :: sensorBytes p
  | .configureLuminaire p => p.line :: p.address :: p.zone :: halfBytes p.trim
  | .setResponse p => [p.cls, p.action, p.alarm]
  | .setLink threshold audit => [threshold, audit]
  | .enable target => [target]
  | .disable target => [target]
  | .request p =>
    p.target :: p.level :: p.kind :: halfBytes p.value ++ halfBytes p.fade ++ halfBytes p.hold ++
      p.waitLimit :: halfBytes p.identity
  | .release identity => halfBytes identity
  | .clearFault target => [target]
  | .watch target setting => [target, setting]
  | .calibrate first last settle => [first, last, settle]
  | .stopShadesNow => [1]
  | .stopSweepNow => [2]
  | .stopSweepAfterZone => [3]
  | .shadeHome bay => [bay]
  | .busHold line => [line]
  | .busRelease line => [line]
  | .queryTarget index => 1 :: halfBytes index
  | .queryZone index => 2 :: halfBytes index
  | .queryBay index => 3 :: halfBytes index
  | .querySensor index => 4 :: halfBytes index
  | .querySensorAll => [4, 0x00, 0xFF]
  | .queryLuminaire line address => [5, line, address]
  | .queryLuminaireAll line => [5, line, 0xFF]
  | .queryFault start target => [6, start, target]
  | .queryPending index => 7 :: halfBytes index
  | .querySweep index => 8 :: halfBytes index
  | .resetPart => []

/-- The frame that carries a command (R187, R202). -/
def encodeCommand (h : FrameHead) (c : Command) : Frame := ⟨h.urgent, c.code, h.tag, c.payload⟩

/-- A command is the row it stands for: the payload values that name ALL belong to the ALL rows (R206, R208). -/
def Command.wellFormed : Command → Bool
  | .configureSensor channel _ => channel != 0xFF
  | .querySensor index => index != 0x00FF
  | .queryLuminaire _ address => address != 0xFF
  | _ => true

/-- The bytes of a frame after its length byte, before its check (R187). -/
def Frame.body (f : Frame) : List Byte := kindByte f.urgent f.code :: f.tag :: f.payload

/-- No row of the table gives bits, so no word spells a command. -/
def decodeTableWord (_nbits _w : Nat) : Option Instr := none

end Sys2Proof
end

