-- ==== Sys2Proof/Machine/State.lean ====
section
/-! DEFINITION. The part's state as plain data, every field at its reset value in `State.reset`, and the reasons a step
could stop. -/

namespace Sys2Proof.Machine

open Sys2Proof

/-- A timer: stopped, or running with the remaining time in milliseconds. -/
abbrev Timer := Option Nat

/-! ### Named values (R205) -/

/-- Target states (R9). -/
inductive TargetState where
  | unconfigured | dormant | active
  deriving DecidableEq, Repr

/-- Origins of contexts (R66). -/
inductive Origin where
  | base | host | fault | calibrate
  deriving DecidableEq, Repr

/-- Kinds of contexts (R66). -/
inductive Kind where
  | auto | fix | cap | setpoint
  deriving DecidableEq, Repr

/-- Measurement sources (R41). -/
inductive Source where
  | none | direct | estimate
  deriving DecidableEq, Repr

/-- The three sensor conditions (R28). -/
inductive SensorFault where
  | silent | range | stuck
  deriving DecidableEq, Repr

/-- Channel states (R28). -/
inductive ChannelState where
  | unused | starting | valid
  | fault (cls : SensorFault)
  deriving DecidableEq, Repr

/-- Glare states (R7). -/
inductive Glare where
  | clear | glarePending | glare | clearPending
  deriving DecidableEq, Repr

/-- Drive states (R122). -/
inductive DriveState where
  | off | idle | waitPower | energizing | homing | moving | verifying | holding | failed
  deriving DecidableEq, Repr

/-- Pending stops (R134). -/
inductive PendingStop where
  | none | halt | release | off | rehome
  deriving DecidableEq, Repr

/-- Verify phases (R129). -/
inductive VerifyPhase where
  | none | seek | ret
  deriving DecidableEq, Repr

/-- Directions of a shade step (R118). -/
inductive Direction where
  | raising | lowering
  deriving DecidableEq, Repr

/-- Line states (R148). -/
inductive LineState where
  | run | holdPending | held
  deriving DecidableEq, Repr

/-- Presence of a luminaire (R149). -/
inductive Presence where
  | unknown | present | missing
  deriving DecidableEq, Repr

/-- Commands of a forward frame (R147). -/
inductive LineCommand where
  | set | query
  deriving DecidableEq, Repr

/-- Purposes of a transaction (R148). -/
inductive Purpose where
  | update | audit
  deriving DecidableEq, Repr

/-- The twelve fault classes, in the order of their numbers (R96). -/
inductive FaultClass where
  | sensorSilent | sensorRange | sensorStuck | measureLost | luminaireMissing | luminaireMismatch
  | shadeHomeError | shadeSeekError | shadeVerifyError | shadePowerTimeout | shadeSwitchError | calibrationImplausible
  deriving DecidableEq, Repr

/-- Actions of the Response Table (R98). -/
inductive FaultAction where
  | report | fallback | lock
  deriving DecidableEq, Repr

/-- Outcomes of a raise (R103). -/
inductive FaultOutcome where
  | recorded | contextInserted | lock
  deriving DecidableEq, Repr

/-- Completion of a raise (R96). -/
inductive Completion where
  | notApplicable | complete | incomplete
  deriving DecidableEq, Repr

/-- The source a raise supplies (R96). -/
inductive FaultSource where
  | channel (c : ChannelId)
  | luminaire (l : LineId) (a : Address)
  | bay (b : BayId)
  deriving DecidableEq, Repr

/-- States of REQUEST STATE (R92). -/
inductive RequestFate where
  | active | displaced | ended | expired | discarded
  deriving DecidableEq, Repr

/-- Causes of FAULT CLEARED (R115). -/
inductive ClearCause where
  | self | command | disable
  deriving DecidableEq, Repr

/-- Sweep states (R168). -/
inductive SweepState where
  | idle | running | stopping
  deriving DecidableEq, Repr

/-- The phases in which a sweep waits (R168). -/
inductive SweepPhase where
  | none | darkSettle | darkRead | lightSettle | lightRead
  deriving DecidableEq, Repr

/-- Results of a zone of a sweep (R170). -/
inductive ZoneResult where
  | done | failed | skipped | abandoned | disturbed
  deriving DecidableEq, Repr

/-- Reasons of a skipped zone (R171). -/
inductive SkipReason where
  | notActive | noSensor | overridden
  deriving DecidableEq, Repr

/-- Causes of SWEEP END (R184). -/
inductive SweepCause where
  | complete | stopped
  deriving DecidableEq, Repr

/-- Causes of STARTED (R200). -/
inductive StartCause where
  | pin | command
  deriving DecidableEq, Repr

/-- Reply statuses (R204). -/
inductive Status where
  | ok | accepted | pending | busy | notActive | notConfigured | badValue | badLevel | badLength | unknownKind
  | duplicate | notFound | pendingFull | locked | noFault
  deriving DecidableEq, Repr

/-! ### Link Port (spec/09) -/

/-- The four link flags (R192). -/
structure LinkFlags where
  frameError : Bool
  inboundLost : Bool
  urgentLost : Bool
  reportLost : Bool
  deriving DecidableEq, Repr

/-- The payload of a FAULT notice (R115, R207). -/
structure FaultNotice where
  target : Option TargetId
  cls : FaultClass
  source : FaultSource
  completion : Completion
  detail1 : Nat
  detail2 : Nat
  outcome : FaultOutcome
  created : Bool
  locked : Bool
  superseded : Nat
  firstClass : FaultClass
  stamp : BitVec 32
  deriving DecidableEq, Repr

/-- The payload of a SWEEP PROGRESS notice (R183). -/
structure ProgressNotice where
  zone : ZoneId
  result : ZoneResult
  reason : Option SkipReason
  restartUsed : Bool
  m0 : Option Nat
  m1 : Option Nat
  eg : Option Nat
  df : Option Nat
  deriving DecidableEq, Repr

/-- The five counts of a sweep (R168). -/
structure SweepCounts where
  done : Nat
  failed : Nat
  skipped : Nat
  abandoned : Nat
  disturbed : Nat
  deriving DecidableEq, Repr

/-- The records that the part sends (R202, R204, R207). -/
inductive Record where
  | reply (tag : Byte) (status : Status) (flags : LinkFlags) (result : List Byte)
  | started (cause : StartCause) (tag : Option Byte)
  | requestState (identity : Nat) (target : TargetId) (level : Nat) (fate : RequestFate)
  | targetChange (target : TargetId) (origin : Origin) (kind : Kind) (level : Nat) (value : Option Nat)
      (identity : Option Nat) (locked : Bool)
  | fault (n : FaultNotice)
  | faultCleared (target : TargetId) (cause : ClearCause) (firstClass : FaultClass) (superseded : Nat)
  | sweepProgress (n : ProgressNotice)
  | sweepEnd (cause : SweepCause) (first last : ZoneId) (counts : SweepCounts)
  | reading (zone : ZoneId) (measure : Option Nat) (source : Source) (output rampTarget : Nat) (origin : Origin)
      (kind : Kind) (level : Nat)
  | lineState (line : LineId) (state : LineState) (listed : Nat)
  deriving DecidableEq, Repr

/-- The frame the transmitter is sending (R196, R197). -/
structure OutFrame where
  urgent : Bool
  record : Record
  deriving DecidableEq, Repr

/-- Receive states with the bytes kept (R188). -/
inductive Receiver where
  | hunt
  | length
  | body (expected : Nat) (kept : List Byte)
  | check (kept : List Byte) (first : Option Byte)
  deriving DecidableEq, Repr

/-- The Link Port: receiver, stores, flags, transmitter and the two values of SET LINK. -/
structure LinkPort where
  receiver : Receiver
  gapTimer : Timer
  inbound : List Frame
  mailbox : Option Frame
  flags : LinkFlags
  reports : List Record
  alarm : Option Record
  sending : Option OutFrame
  threshold : Nat
  auditInterval : Nat
  deriving DecidableEq, Repr

/-! ### Sensor Scanner (spec/02) -/

/-- The exchange in flight on the sensor line; `discard` is set by a reconfiguration of its channel (R22, R27). -/
structure Poll where
  channel : ChannelId
  answerTimer : Timer
  discard : Bool
  deriving DecidableEq, Repr

/-- The Scanner's own state; a scan is in progress exactly while an exchange is in flight (R24, R25). -/
structure Scanner where
  scanTimer : Timer
  interval : Nat
  owed : Bool
  poll : Option Poll
  deriving DecidableEq, Repr

/-- The span of one reference channel in the current run (R35). -/
structure Span where
  ref : BayId
  lowest : Nat
  highest : Nat
  deriving DecidableEq, Repr

/-- A channel record (R23); the reference spans that are present stand in ascending order of their channel. -/
structure Channel where
  used : Bool
  scale : Nat
  shift : Nat
  state : ChannelState
  history : List Nat
  filtered : Option Nat
  lastRaw : Option Nat
  missCount : Nat
  recoveryCount : Nat
  runCount : Nat
  spans : List Span
  deriving DecidableEq, Repr

/-! ### Zone Controller (spec/01, spec/03) -/

/-- What the Zone Controller keeps of a channel (R41). -/
structure ChannelView where
  valid : Bool
  value : Option Nat
  deriving DecidableEq, Repr

/-- The configured part of a zone record (R3). -/
structure ZoneConfig where
  targetLux : Nat
  deadband : Nat
  minLevel : Nat
  maxLevel : Nat
  upRate : Nat
  downRate : Nat
  fallback : Nat
  nominalGain : Nat
  ceilingSensor : Bool
  readingInterval : Nat
  deriving DecidableEq, Repr

/-- A calibration record (R5). -/
structure CalRecord where
  eg : Nat
  df : Option Nat
  stamp : BitVec 32
  deriving DecidableEq, Repr

/-- The rates in force (R40). -/
inductive Rates where
  | perSecond (up down : Nat)
  | immediate
  deriving DecidableEq, Repr

/-- The active context copy (R40). -/
structure ContextCopy where
  origin : Origin
  kind : Kind
  level : Nat
  value : Option Nat
  fade : Nat
  locked : Bool
  deriving DecidableEq, Repr

/-- A zone record with the Zone Controller's own state of the zone (R3, R4, R40). -/
structure Zone where
  cfg : ZoneConfig
  output : Nat
  rampTarget : Nat
  source : Source
  settling : Bool
  settleTimer : Timer
  readingTimer : Timer
  cal : Option CalRecord
  rampTimer : Timer
  rates : Rates
  copy : ContextCopy
  measureLost : Bool
  deriving DecidableEq, Repr

/-- The configured part of a bay record (R6). -/
structure BayConfig where
  skySensor : Bool
  glareOn : Nat
  glareOff : Nat
  glareOnHold : Nat
  glareOffHold : Nat
  shadePresent : Bool
  openStop : Nat
  glareStop : Nat
  fallbackStop : Nat
  stepRate : Nat
  verify : Bool
  settleInterval : Nat
  deriving DecidableEq, Repr

/-- A bay record with its calibration freeze mark (R6, R7, R40). -/
structure Bay where
  cfg : BayConfig
  glare : Glare
  glareTimer : Timer
  halted : Bool
  frozen : Bool
  deriving DecidableEq, Repr

/-! ### Request Arbiter and Fault Unit (spec/04, spec/05) -/

/-- A context (R66); `hold` is its hold timer. -/
structure Context where
  origin : Origin
  level : Nat
  kind : Kind
  value : Option Nat
  fade : Nat
  hold : Timer
  identity : Option Nat
  locked : Bool
  deriving DecidableEq, Repr

/-- The context at fault of a fault record (R100). -/
structure ContextAtFault where
  origin : Origin
  kind : Kind
  level : Nat
  deriving DecidableEq, Repr

/-- A condition of an open set (R101). -/
structure Condition where
  cls : FaultClass
  source : FaultSource
  deriving DecidableEq, Repr

/-- A fault record (R100); the open set in the order in which its conditions entered it (R209). -/
structure FaultRecord where
  firstClass : FaultClass
  latestClass : FaultClass
  source : FaultSource
  stamp : BitVec 32
  context : Option ContextAtFault
  completion : Completion
  detail1 : Nat
  detail2 : Nat
  openSet : List Condition
  latched : Bool
  superseded : Nat
  lockMark : Bool
  deriving DecidableEq, Repr

/-- A target (R2): its state, its context stack above the base with the active context first, the base context's value,
its marks and its fault record. -/
structure Target where
  state : TargetState
  above : List Context
  baseValue : Option Nat
  watch : Bool
  window : Bool
  fault : Option FaultRecord
  deriving DecidableEq, Repr

/-- An entry of the Pending List (R70); `hold` in seconds as the request carried it, `wait` its wait timer. -/
structure Entry where
  target : TargetId
  level : Nat
  kind : Kind
  value : Nat
  fade : Nat
  hold : Option Nat
  identity : Nat
  waitLimit : Nat
  wait : Timer
  arrival : Nat
  deriving DecidableEq, Repr

/-- An entry of the Response Table (R98). -/
structure Response where
  action : FaultAction
  alarm : Bool
  deriving DecidableEq, Repr

/-! ### Shade Drives (spec/06) -/

/-- A drive record (R120) with its grant and power wait timer (R136) and its STEP and DIR outputs (R118). The last three
fields are the model's: they hold what R130, R141 and R21 say the drive remembers until its next step event. -/
structure Drive where
  state : DriveState
  position : Option Nat
  desired : Option Nat
  following : Bool
  pendingStop : PendingStop
  powerTimeout : Bool
  firstStep : Bool
  homingCount : Nat
  phase : VerifyPhase
  verifyStop : Option Nat
  searchCount : Nat
  mismatchCount : Nat
  stepTimer : Timer
  energiseTimer : Timer
  holdTimer : Timer
  grant : Bool
  waitTimer : Timer
  dir : Direction
  stepPulse : Bool
  verifyAbandoned : Bool
  homingRestart : Bool
  positionRule : Bool
  deriving DecidableEq, Repr

/-! ### Luminaire Line Engines (spec/07) -/

/-- A transaction in flight (R148). -/
structure Transaction where
  address : Address
  cmd : LineCommand
  value : Nat
  purpose : Purpose
  attempt : Nat
  deriving DecidableEq, Repr

/-- A luminaire record (R149). -/
structure Luminaire where
  configured : Bool
  zone : Option ZoneId
  trim : Nat
  presence : Presence
  sent : Option Nat
  confirmed : Option Nat
  setConfirmed : Bool
  dirty : Bool
  mismatch : Bool
  deriving DecidableEq, Repr

/-- An engine's record and its luminaire records (R148, R149). -/
structure Line where
  state : LineState
  list : List Address
  transaction : Option Transaction
  answerTimer : Timer
  auditTimer : Timer
  auditOwed : Bool
  cursor : Option Address
  lums : Vector Luminaire 96
  deriving DecidableEq, Repr

/-! ### Calibration Sequencer (spec/08) -/

/-- The sweep record (R168). -/
structure Sweep where
  state : SweepState
  first : ZoneId
  last : ZoneId
  settle : Nat
  current : Option ZoneId
  phase : SweepPhase
  timer : Timer
  restartUsed : Bool
  ceilingValid : Bool
  latestSky : Option Nat
  m0 : Option Nat
  s0 : Option Nat
  m1 : Option Nat
  s1 : Option Nat
  counts : SweepCounts
  deriving DecidableEq, Repr

/-! ### The whole part -/

/-- The state of the part, with the queue of the commands that wait to be taken, first in, first out. -/
structure State where
  rstAsserted : Bool
  hrdy : Bool
  homeIn : Vector Bool 16
  markIn : Vector (Option (Fin 15)) 16
  seconds : BitVec 32
  link : LinkPort
  scanner : Scanner
  channels : Vector Channel 64
  views : Vector ChannelView 64
  zones : Vector Zone 48
  bays : Vector Bay 16
  targets : Vector Target 64
  pendingList : List Entry
  nextArrival : Nat
  responses : Vector Response 12
  drives : Vector Drive 16
  grantQueue : List BayId
  lineL0 : Line
  lineL1 : Line
  sweep : Sweep
  pending : List Instr
  deriving DecidableEq, Repr

/-! ### Reset values -/

/-- Link flags after reset (R192). -/
def LinkFlags.reset : LinkFlags := ⟨false, false, false, false⟩

/-- The Link Port's stores and values after reset, before STARTED enters (R188, R189, R192 to R196). -/
def LinkPort.reset : LinkPort :=
  { receiver := .hunt, gapTimer := none, inbound := [], mailbox := none, flags := .reset, reports := [], alarm := none,
    sending := none, threshold := Config.almostFullReset, auditInterval := Config.auditIntervalReset }

/-- The Scanner after reset (R24, R38). -/
def Scanner.reset : Scanner :=
  { scanTimer := some Config.scanIntervalReset, interval := Config.scanIntervalReset, owed := false, poll := none }

/-- A channel record after reset (R23). -/
def Channel.reset : Channel :=
  { used := false, scale := 1024, shift := 2, state := .unused, history := [], filtered := none, lastRaw := none,
    missCount := 0, recoveryCount := 0, runCount := 1, spans := [] }

/-- The Zone Controller's view of a channel after reset: no channel is VALID (R38). -/
def ChannelView.reset : ChannelView := ⟨false, none⟩

/-- A zone's configured fields after reset (R3). -/
def ZoneConfig.reset : ZoneConfig :=
  { targetLux := 0, deadband := 0, minLevel := 0, maxLevel := 0, upRate := 1, downRate := 1, fallback := 0,
    nominalGain := 50, ceilingSensor := false, readingInterval := 0 }

/-- A zone record after reset (R3, R4, R5, R40). -/
def Zone.reset : Zone :=
  { cfg := .reset, output := 0, rampTarget := 0, source := .none, settling := false, settleTimer := none,
    readingTimer := none, cal := none, rampTimer := none, rates := .perSecond 1 1,
    copy := ⟨.base, .auto, 15, none, 0, false⟩, measureLost := false }

/-- A bay's configured fields after reset (R6). -/
def BayConfig.reset : BayConfig :=
  { skySensor := false, glareOn := 65535, glareOff := 0, glareOnHold := 0, glareOffHold := 0, shadePresent := false,
    openStop := 0, glareStop := 0, fallbackStop := 0, stepRate := 25, verify := false, settleInterval := 1 }

/-- A bay record after reset (R6, R7, R40). -/
def Bay.reset : Bay := { cfg := .reset, glare := .clear, glareTimer := none, halted := false, frozen := false }

/-- A target after reset: a zone's base carries no value, a shade's carries stop 0 (R9, R95, R100). -/
def Target.reset (baseValue : Option Nat) : Target :=
  { state := .unconfigured, above := [], baseValue := baseValue, watch := false, window := false, fault := none }

/-- The Response Table after reset (R98). -/
def Response.defaults : Vector Response 12 :=
  #v[⟨.report, false⟩, ⟨.report, false⟩, ⟨.report, false⟩, ⟨.fallback, false⟩, ⟨.report, false⟩, ⟨.report, false⟩,
     ⟨.fallback, true⟩, ⟨.fallback, true⟩, ⟨.report, false⟩, ⟨.report, false⟩, ⟨.lock, true⟩, ⟨.report, false⟩]

/-- A drive record after reset (R120, R145). -/
def Drive.reset : Drive :=
  { state := .off, position := none, desired := none, following := false, pendingStop := .none, powerTimeout := false,
    firstStep := false, homingCount := 0, phase := .none, verifyStop := none, searchCount := 0, mismatchCount := 0,
    stepTimer := none, energiseTimer := none, holdTimer := none, grant := false, waitTimer := none, dir := .raising,
    stepPulse := false, verifyAbandoned := false, homingRestart := false, positionRule := false }

/-- A luminaire record after reset (R149). -/
def Luminaire.reset : Luminaire :=
  { configured := false, zone := none, trim := 1000, presence := .unknown, sent := none, confirmed := none,
    setConfirmed := false, dirty := false, mismatch := false }

/-- A line after reset (R148, R166). -/
def Line.reset : Line :=
  { state := .run, list := [], transaction := none, answerTimer := none,
    auditTimer := some (1000 * Config.auditIntervalReset), auditOwed := false, cursor := none,
    lums := Vector.replicate 96 .reset }

/-- The sweep record after reset (R168). -/
def Sweep.reset : Sweep :=
  { state := .idle, first := 0, last := 0, settle := 2, current := none, phase := .none, timer := none,
    restartUsed := false, ceilingValid := false, latestSky := none, m0 := none, s0 := none, m1 := none, s1 := none,
    counts := ⟨0, 0, 0, 0, 0⟩ }

/-- The machine right after RST_N was deasserted: every block at its reset values and STARTED with cause PIN in the Report
Queue (R198, R200). The levels of the inputs HRDY, HOME and MARK are chosen (assumption log 5 and 6). -/
def State.reset : State :=
  { rstAsserted := false, hrdy := false, homeIn := Vector.replicate 16 false, markIn := Vector.replicate 16 none,
    seconds := 0, link := { LinkPort.reset with reports := [.started .pin none] }, scanner := .reset,
    channels := Vector.replicate 64 .reset, views := Vector.replicate 64 .reset, zones := Vector.replicate 48 .reset,
    bays := Vector.replicate 16 .reset,
    targets := Vector.replicate 48 (Target.reset none) ++ Vector.replicate 16 (Target.reset (some 0)),
    pendingList := [], nextArrival := 0, responses := Response.defaults, drives := Vector.replicate 16 .reset,
    grantQueue := [], lineL0 := .reset, lineL1 := .reset, sweep := .reset, pending := [] }

/-! ### Stops -/

/-- Faults of a step. The manual names none: nothing stops the part, and no meaning of this model faults. -/
inductive Fault where
  /-- Raised by no meaning; it stands so that the type has a name to report. Safe: a stop allows nothing. -/
  | halted
  deriving DecidableEq, Repr

/-- Refusals of a step. -/
inductive Refusal where
  /-- Raised by an arm of `exec` whose row has no meaning yet; no arm does. Safe: a stop allows nothing. -/
  | notModelled (mnemonic : String)
  deriving DecidableEq, Repr

end Sys2Proof.Machine
end

