-- ==== Sys2Proof/Machine/Ops.lean ====
section
/-! DEFINITION. The named operations over the state: the numbering of the floor (R1, R2), one reader and one writer for each
table of records, and the entry of records into the Report Queue and the Alarm Mailbox (R192, R193, R195). -/

namespace Sys2Proof.Machine

open Sys2Proof

/-! ### Numbering (R1, R2) -/

/-- All indexes below `n`, ascending. -/
def allIds : (n : Nat) → List (Fin n)
  | 0 => []
  | n + 1 => 0 :: (allIds n).map Fin.succ

/-- The bay of a zone: the zone number divided by 3 (R1). -/
def bayOf (z : ZoneId) : BayId := ⟨z.val / 3, by omega⟩

/-- The zones of a bay, rows A, B and C (R1). -/
def zonesOf (b : BayId) : List ZoneId := [⟨3 * b.val, by omega⟩, ⟨3 * b.val + 1, by omega⟩, ⟨3 * b.val + 2, by omega⟩]

/-- The ceiling sensor channel of a zone (R1). -/
def ceilingChannel (z : ZoneId) : ChannelId := ⟨16 + z.val, by omega⟩

/-- The sky sensor channel of a bay (R1). -/
def skyChannel (b : BayId) : ChannelId := ⟨b.val, by omega⟩

/-- The target of a zone (R2). -/
def zoneTarget (z : ZoneId) : TargetId := ⟨z.val, by omega⟩

/-- The target of a bay's shade (R2). -/
def shadeTarget (b : BayId) : TargetId := ⟨48 + b.val, by omega⟩

/-- What a target number names (R2). -/
inductive TargetView where
  | zone (z : ZoneId)
  | shade (b : BayId)
  deriving DecidableEq, Repr

/-- The zone or shade of a target number (R2). -/
def viewTarget (t : TargetId) : TargetView :=
  if h : t.val < 48 then .zone ⟨t.val, h⟩ else .shade ⟨t.val - 48, by omega⟩

/-- What a channel number names (R1). -/
inductive ChannelKind where
  | sky (b : BayId)
  | ceiling (z : ZoneId)
  deriving DecidableEq, Repr

/-- The sensor of a channel number (R1). -/
def viewChannel (c : ChannelId) : ChannelKind :=
  if h : c.val < 16 then .sky ⟨c.val, h⟩ else .ceiling ⟨c.val - 16, by omega⟩

/-- The target against which a channel's faults are raised (R36). -/
def channelTarget (c : ChannelId) : TargetId :=
  match viewChannel c with
  | .sky b => shadeTarget b
  | .ceiling z => zoneTarget z

/-! ### Readers and writers of the tables -/

/-- The zone record of `z`. -/
def State.zone (s : State) (z : ZoneId) : Zone := s.zones.get z
/-- Writes the zone record of `z`. -/
def State.setZone (s : State) (z : ZoneId) (r : Zone) : State := { s with zones := s.zones.set z.val r z.isLt }
/-- The bay record of `b`. -/
def State.bay (s : State) (b : BayId) : Bay := s.bays.get b
/-- Writes the bay record of `b`. -/
def State.setBay (s : State) (b : BayId) (r : Bay) : State := { s with bays := s.bays.set b.val r b.isLt }
/-- The target record of `t`. -/
def State.target (s : State) (t : TargetId) : Target := s.targets.get t
/-- Writes the target record of `t`. -/
def State.setTarget (s : State) (t : TargetId) (r : Target) : State := { s with targets := s.targets.set t.val r t.isLt }
/-- The drive record of `b`. -/
def State.drive (s : State) (b : BayId) : Drive := s.drives.get b
/-- Writes the drive record of `b`. -/
def State.setDrive (s : State) (b : BayId) (r : Drive) : State := { s with drives := s.drives.set b.val r b.isLt }
/-- The channel record of `c`. -/
def State.channel (s : State) (c : ChannelId) : Channel := s.channels.get c
/-- Writes the channel record of `c`. -/
def State.setChannel (s : State) (c : ChannelId) (r : Channel) : State :=
  { s with channels := s.channels.set c.val r c.isLt }
/-- The Zone Controller's view of `c`. -/
def State.view (s : State) (c : ChannelId) : ChannelView := s.views.get c
/-- Writes the Zone Controller's view of `c`. -/
def State.setView (s : State) (c : ChannelId) (r : ChannelView) : State := { s with views := s.views.set c.val r c.isLt }
/-- The Link Port with another value. -/
def State.setLink (s : State) (r : LinkPort) : State := { s with link := r }
/-- The Scanner's own state with another value. -/
def State.setScanner (s : State) (r : Scanner) : State := { s with scanner := r }
/-- The sweep record with another value. -/
def State.setSweep (s : State) (r : Sweep) : State := { s with sweep := r }
/-- The Pending List with another value. -/
def State.setPendingList (s : State) (l : List Entry) : State := { s with pendingList := l }
/-- The grant queue with another value. -/
def State.setGrantQueue (s : State) (l : List BayId) : State := { s with grantQueue := l }

/-- The engine's record of a line. -/
def State.line (s : State) : LineId → Line
  | .l0 => s.lineL0
  | .l1 => s.lineL1
/-- Writes the engine's record of a line. -/
def State.setLine (s : State) (l : LineId) (r : Line) : State :=
  match l with
  | .l0 => { s with lineL0 := r }
  | .l1 => { s with lineL1 := r }
/-- The luminaire record at a line and address. -/
def State.lum (s : State) (l : LineId) (a : Address) : Luminaire := (s.line l).lums.get a
/-- Writes the luminaire record at a line and address. -/
def State.setLum (s : State) (l : LineId) (a : Address) (r : Luminaire) : State :=
  s.setLine l { s.line l with lums := (s.line l).lums.set a.val r a.isLt }

/-- The entry of a fault class in the Response Table: the class number less one (R96, R98). -/
def FaultClass.index : FaultClass → Fin 12
  | .sensorSilent => 0
  | .sensorRange => 1
  | .sensorStuck => 2
  | .measureLost => 3
  | .luminaireMissing => 4
  | .luminaireMismatch => 5
  | .shadeHomeError => 6
  | .shadeSeekError => 7
  | .shadeVerifyError => 8
  | .shadePowerTimeout => 9
  | .shadeSwitchError => 10
  | .calibrationImplausible => 11

/-- The Response Table entry of a class. -/
def State.response (s : State) (c : FaultClass) : Response := s.responses.get c.index

/-! ### Timers -/

/-- One millisecond of a timer. A running timer that is due stays running until its expiry is taken (log 3 and 4). -/
def tickTimer : Timer → Timer
  | none => none
  | some ms => some (max 1 (ms - 1))

/-- A timer started with whole seconds. -/
def startSeconds (n : Nat) : Timer := some (1000 * n)

/-- Remaining whole seconds, rounded up; 0 when stopped (R201). -/
def secondsLeft : Timer → Nat
  | none => 0
  | some ms => (ms + 999) / 1000

/-! ### Records into the stores -/

/-- Sets REPORT_LOST (R192). -/
def setReportLost (s : State) : State :=
  s.setLink { s.link with flags := { s.link.flags with reportLost := true } }

/-- Sets FRAME_ERROR (R192). -/
def setFrameError (s : State) : State :=
  s.setLink { s.link with flags := { s.link.flags with frameError := true } }

/-- Offers a notice other than a READING to the Report Queue: lost with REPORT_LOST when the queue is full (R193). -/
def offerNotice (r : Record) (s : State) : State :=
  if s.link.reports.length < Config.reportCap then s.setLink { s.link with reports := s.link.reports ++ [r] }
  else setReportLost s

/-- Offers a READING: skipped when the occupancy has reached the almost-full threshold (R193, R194). -/
def offerReading (r : Record) (s : State) : State :=
  if s.link.reports.length < s.link.threshold then s.setLink { s.link with reports := s.link.reports ++ [r] } else s

/-- Offers an alarm: to the Alarm Mailbox, and to the Report Queue when the mailbox is occupied (R116, R195). -/
def offerAlarm (r : Record) (s : State) : State :=
  if s.link.alarm.isNone then s.setLink { s.link with alarm := some r } else offerNotice r s

/-- Enters the REPLY of a command: it copies the link flags and clears them (R191, R192). -/
def enterReply (tag : Byte) (status : Status) (result : List Byte) (s : State) : State :=
  s.setLink { s.link with reports := s.link.reports ++ [.reply tag status s.link.flags result], flags := .reset }

/-- A REPLY with no result (R204). -/
def reply (tag : Byte) (status : Status) (s : State) : State := enterReply tag status [] s

/-! ### Contexts -/

/-- The base context of a target (R66). -/
def baseContext (value : Option Nat) : Context := ⟨.base, 15, .auto, value, 0, none, none, false⟩

/-- The active context of a stack: the topmost (R65). -/
def Target.active (r : Target) : Context :=
  match r.above with
  | [] => baseContext r.baseValue
  | c :: _ => c

/-- The active context of a target. -/
def State.active (s : State) (t : TargetId) : Context := (s.target t).active

/-- A target is LOCKED exactly while its record exists with the lock mark set (R100). -/
def Target.locked (r : Target) : Bool :=
  match r.fault with
  | none => false
  | some f => f.lockMark

/-- A target is ACTIVE (R9). -/
def Target.isActive (r : Target) : Bool := r.state == .active

/-- The stack holds a fault context. -/
def Target.hasFaultContext (r : Target) : Bool := r.above.any fun c => c.origin == .fault

/-- ALM_N is asserted while the Alarm Mailbox is occupied (R195). -/
def State.almAsserted (s : State) : Bool := s.link.alarm.isSome

/-- ENERGIZE of a bay: asserted while the drive holds a grant and is in one of the five energised states (R118). -/
def State.energize (s : State) (b : BayId) : Bool :=
  let d := s.drive b
  d.grant && (d.state == .energizing || d.state == .homing || d.state == .moving || d.state == .verifying ||
    d.state == .holding)

/-- The motion states (R122). -/
def DriveState.inMotion : DriveState → Bool
  | .homing | .moving | .verifying => true
  | _ => false

end Sys2Proof.Machine
end

