-- ==== Sys2Proof/Machine/Operands.lean ====
section
/-! DEFINITION. The operands of the host commands: from the bytes of a payload to the field each stands for, with the range
of R3, R6, R23, R205 and R206; `none` is a value out of range, answered BAD_VALUE (R203). -/

namespace Sys2Proof.Machine

open Sys2Proof

/-- A number below `n`. -/
def operandId (n : Nat) (v : Nat) : Option (Fin n) := if h : v < n then some ⟨v, h⟩ else none

/-- A zone number, 0–47. -/
def operandZone (b : Byte) : Option ZoneId := operandId 48 b.toNat
/-- A bay number, 0–15. -/
def operandBay (b : Byte) : Option BayId := operandId 16 b.toNat
/-- A target number, 0–63. -/
def operandTarget (b : Byte) : Option TargetId := operandId 64 b.toNat
/-- A channel number, 0–63. -/
def operandChannel (b : Byte) : Option ChannelId := operandId 64 b.toNat
/-- A luminaire address, 0–95. -/
def operandAddress (b : Byte) : Option Address := operandId 96 b.toNat

/-- A yes-or-no field: 1 for the first, 0 for the second (R201). -/
def operandFlag (b : Byte) : Option Bool := if b = 1 then some true else if b = 0 then some false else none

/-- A number in `lo`–`hi`. -/
def operandRange (lo hi v : Nat) : Option Nat := if lo ≤ v ∧ v ≤ hi then some v else none

/-- A line code (R205). -/
def operandLine (b : Byte) : Option LineId := if b = 0 then some .l0 else if b = 1 then some .l1 else none

/-- A zone or NONE, 0xFF (R206). -/
def operandZoneOrNone (b : Byte) : Option (Option ZoneId) :=
  if b = 0xFF then some none else (operandZone b).map some

/-- A fault class number, 1–12 (R96). -/
def operandClass (b : Byte) : Option FaultClass :=
  match b.toNat with
  | 1 => some .sensorSilent
  | 2 => some .sensorRange
  | 3 => some .sensorStuck
  | 4 => some .measureLost
  | 5 => some .luminaireMissing
  | 6 => some .luminaireMismatch
  | 7 => some .shadeHomeError
  | 8 => some .shadeSeekError
  | 9 => some .shadeVerifyError
  | 10 => some .shadePowerTimeout
  | 11 => some .shadeSwitchError
  | 12 => some .calibrationImplausible
  | _ => none

/-- A fault action code (R205). -/
def operandAction (b : Byte) : Option FaultAction :=
  match b.toNat with
  | 1 => some .report
  | 2 => some .fallback
  | 3 => some .lock
  | _ => none

/-- A kind that a REQUEST may carry (R74, R205). -/
def operandKind (b : Byte) : Option Kind :=
  match b.toNat with
  | 1 => some .fix
  | 2 => some .cap
  | 3 => some .setpoint
  | _ => none

/-- A step rate: 25, 50, 100 or 200 stops a second (R6). -/
def operandStepRate (b : Byte) : Option Nat :=
  match b.toNat with
  | 25 => some 25
  | 50 => some 50
  | 100 => some 100
  | 200 => some 200
  | _ => none

/-- A scan interval: 100–2000 ms in steps of 100 (R26). -/
def operandScanInterval (h : Half) : Option Nat :=
  if 100 ≤ h.toNat ∧ h.toNat ≤ 2000 ∧ h.toNat % 100 = 0 then some h.toNat else none

/-- The zone number and configured fields of CONFIGURE ZONE, each in the range of R3 (R11, step 2). -/
def operandZoneConfig (p : ZonePayload) : Option (ZoneId × ZoneConfig) := do
  let z ← operandZone p.zone
  let targetLux ← operandRange 0 2000 p.targetLux.toNat
  let deadband ← operandRange 0 200 p.deadband.toNat
  let minLevel ← operandRange 0 1000 p.minLevel.toNat
  let maxLevel ← operandRange 0 1000 p.maxLevel.toNat
  let upRate ← operandRange 1 1000 p.upRate.toNat
  let downRate ← operandRange 1 1000 p.downRate.toNat
  let fallback ← operandRange 0 1000 p.fallback.toNat
  let nominalGain ← operandRange 50 5000 p.nominalGain.toNat
  let ceilingSensor ← operandFlag p.ceilingSensor
  let readingInterval ← operandRange 0 3600 p.readingInterval.toNat
  return (z, ⟨targetLux, deadband, minLevel, maxLevel, upRate, downRate, fallback, nominalGain, ceilingSensor,
    readingInterval⟩)

/-- The bay number and configured fields of CONFIGURE BAY, each in the range of R6 (R13, step 2). -/
def operandBayConfig (p : BayPayload) : Option (BayId × BayConfig) := do
  let b ← operandBay p.bay
  let skySensor ← operandFlag p.skySensor
  let glareOn ← operandRange 1 65535 p.glareOn.toNat
  let glareOff ← operandRange 0 65534 p.glareOff.toNat
  let glareOnHold ← operandRange 0 600 p.glareOnHold.toNat
  let glareOffHold ← operandRange 0 600 p.glareOffHold.toNat
  let shadePresent ← operandFlag p.shadePresent
  let openStop ← operandRange 0 239 p.openStop.toNat
  let glareStop ← operandRange 0 239 p.glareStop.toNat
  let fallbackStop ← operandRange 0 239 p.fallbackStop.toNat
  let stepRate ← operandStepRate p.stepRate
  let verify ← operandFlag p.verify
  let settleInterval ← operandRange 1 30 p.settleInterval.toNat
  return (b, ⟨skySensor, glareOn, glareOff, glareOnHold, glareOffHold, shadePresent, openStop, glareStop, fallbackStop,
    stepRate, verify, settleInterval⟩)

/-- A hold field: 0 is absent (R206). -/
def operandHold (h : Half) : Option Nat := if h = 0 then none else some h.toNat

/-- The kinds, values and fade rates that a REQUEST may carry for a zone or a shade (R74). -/
def requestFieldsAllowed (t : TargetId) (kind : Kind) (value fade : Nat) : Bool :=
  match viewTarget t, kind with
  | .zone _, .fix => value ≤ 1000 && fade ≤ 1000
  | .zone _, .cap => value ≤ 1000 && fade == 0
  | .zone _, .setpoint => value ≤ 2000 && fade == 0
  | .shade _, .fix => value ≤ 239 && fade == 0
  | _, _ => false

/-- The levels a REQUEST may carry: 0, 1, 3–11, 13, 14 (R67). -/
def requestLevelAllowed (level : Nat) : Bool := level ≤ 14 && level != 2 && level != 12

end Sys2Proof.Machine
end

