-- ==== Sys2Proof/Machine/Flags.lean ====
section
/-! DEFINITION. Marks bytes (R201): the link-flag byte of a REPLY (R204) and the bytes that gather several yes or no choices. -/

namespace Sys2Proof.Machine

open Sys2Proof

/-- The number whose bits, from bit 0, are the given choices. -/
def marksNat : List Bool → Nat
  | [] => 0
  | b :: bs => b.toNat + 2 * marksNat bs

/-- A marks byte: bit 0 is the first choice; every bit without a choice is 0 (R201). -/
def marks (bs : List Bool) : Byte := BitVec.ofNat 8 (marksNat bs)

/-- The link-flag byte (R204). -/
def LinkFlags.byte (f : LinkFlags) : Byte := marks [f.frameError, f.inboundLost, f.urgentLost, f.reportLost]

/-- The marks byte of a FAULT notice: record created, locked (R207). -/
def FaultNotice.marksByte (n : FaultNotice) : Byte := marks [n.created, n.locked]

/-- The presence byte of a SWEEP PROGRESS notice (R207). -/
def ProgressNotice.presenceByte (n : ProgressNotice) : Byte :=
  marks [n.m0.isSome, n.m1.isSome, n.eg.isSome, n.df.isSome]

end Sys2Proof.Machine
end

