-- ==== Sys2Proof/Machine/Codes.lean ====
section
/-! DEFINITION. The value codes of R205, the encoding of fields (R201), the payloads of the records (R204, R207) and the bytes
of the frames that the part sends (R187, R197, R202). -/

namespace Sys2Proof.Machine

open Sys2Proof

/-! ### Fields (R201) -/

/-- A field of one byte. -/
def be1 (n : Nat) : Byte := BitVec.ofNat 8 n
/-- A field of two bytes, most significant byte first. -/
def be2 (n : Nat) : List Byte := [be1 (n / 256), be1 n]
/-- A field of three bytes. -/
def be3 (n : Nat) : List Byte := be1 (n / 65536) :: be2 n
/-- A field of four bytes. -/
def be4 (n : Nat) : List Byte := be2 (n / 65536) ++ be2 n
/-- A yes-or-no field. -/
def flagByte (b : Bool) : Byte := be1 b.toNat

/-! ### Codes (R96, R204, R205) -/

/-- Target state codes. -/
def TargetState.code : TargetState → Nat
  | .unconfigured => 0
  | .dormant => 1
  | .active => 2

/-- Context origin codes. -/
def Origin.code : Origin → Nat
  | .base => 0
  | .host => 1
  | .fault => 2
  | .calibrate => 3

/-- Context kind codes. -/
def Kind.code : Kind → Nat
  | .auto => 0
  | .fix => 1
  | .cap => 2
  | .setpoint => 3

/-- Measurement source codes. -/
def Source.code : Source → Nat
  | .none => 0
  | .direct => 1
  | .estimate => 2

/-- Channel state codes. -/
def ChannelState.code : ChannelState → Nat
  | .unused => 0
  | .starting => 1
  | .valid => 2
  | .fault .silent => 3
  | .fault .range => 4
  | .fault .stuck => 5

/-- Glare state codes. -/
def Glare.code : Glare → Nat
  | .clear => 0
  | .glarePending => 1
  | .glare => 2
  | .clearPending => 3

/-- Drive state codes. -/
def DriveState.code : DriveState → Nat
  | .off => 0
  | .idle => 1
  | .waitPower => 2
  | .energizing => 3
  | .homing => 4
  | .moving => 5
  | .verifying => 6
  | .holding => 7
  | .failed => 8

/-- Pending stop codes. -/
def PendingStop.code : PendingStop → Nat
  | .none => 0
  | .halt => 1
  | .release => 2
  | .off => 3
  | .rehome => 4

/-- Verify phase codes. -/
def VerifyPhase.code : VerifyPhase → Nat
  | .none => 0
  | .seek => 1
  | .ret => 2

/-- Line codes. -/
def lineCode : LineId → Nat
  | .l0 => 0
  | .l1 => 1

/-- Line state codes. -/
def LineState.code : LineState → Nat
  | .run => 0
  | .holdPending => 1
  | .held => 2

/-- Presence codes. -/
def Presence.code : Presence → Nat
  | .unknown => 0
  | .present => 1
  | .missing => 2

/-- Transaction command codes; 0 is no transaction. -/
def LineCommand.code : LineCommand → Nat
  | .set => 1
  | .query => 2

/-- Fault class numbers (R96). -/
def FaultClass.code (c : FaultClass) : Nat := c.index.val + 1

/-- Fault outcome codes. -/
def FaultOutcome.code : FaultOutcome → Nat
  | .recorded => 1
  | .contextInserted => 2
  | .lock => 3

/-- Completion codes. -/
def Completion.code : Completion → Nat
  | .notApplicable => 0
  | .complete => 1
  | .incomplete => 2

/-- REQUEST STATE codes. -/
def RequestFate.code : RequestFate → Nat
  | .active => 1
  | .displaced => 2
  | .ended => 3
  | .expired => 4
  | .discarded => 5

/-- FAULT CLEARED cause codes. -/
def ClearCause.code : ClearCause → Nat
  | .self => 1
  | .command => 2
  | .disable => 3

/-- Sweep state codes. -/
def SweepState.code : SweepState → Nat
  | .idle => 0
  | .running => 1
  | .stopping => 2

/-- Sweep phase codes. -/
def SweepPhase.code : SweepPhase → Nat
  | .none => 0
  | .darkSettle => 1
  | .darkRead => 2
  | .lightSettle => 3
  | .lightRead => 4

/-- Zone result codes. -/
def ZoneResult.code : ZoneResult → Nat
  | .done => 1
  | .failed => 2
  | .skipped => 3
  | .abandoned => 4
  | .disturbed => 5

/-- Skip reason codes; 0 is absent. -/
def skipCode : Option SkipReason → Nat
  | none => 0
  | some .notActive => 1
  | some .noSensor => 2
  | some .overridden => 3

/-- SWEEP END cause codes. -/
def SweepCause.code : SweepCause → Nat
  | .complete => 1
  | .stopped => 2

/-- STARTED cause codes. -/
def StartCause.code : StartCause → Nat
  | .pin => 1
  | .command => 2

/-- Status codes (R204). -/
def Status.code : Status → Nat
  | .ok => 0x00
  | .accepted => 0x01
  | .pending => 0x02
  | .busy => 0x10
  | .notActive => 0x11
  | .notConfigured => 0x12
  | .badValue => 0x13
  | .badLevel => 0x14
  | .badLength => 0x15
  | .unknownKind => 0x16
  | .duplicate => 0x17
  | .notFound => 0x18
  | .pendingFull => 0x19
  | .locked => 0x1A
  | .noFault => 0x1B

/-- The source field of a fault (R205). -/
def FaultSource.bytes : FaultSource → List Byte
  | .channel c => [0, be1 c.val]
  | .luminaire l a => [be1 (lineCode l), be1 a.val]
  | .bay b => [0, be1 b.val]

/-- A byte with an origin in bits 4 to 7 and a kind in bits 0 to 3 (R208, R209). -/
def originKindByte (o : Origin) (k : Kind) : Byte := be1 (16 * o.code + k.code)

/-! ### Records (R202, R204, R207) -/

/-- The kind code of a record (R202). -/
def Record.code : Record → BitVec 7
  | .reply .. => 0x40
  | .started .. => 0x41
  | .requestState .. => 0x42
  | .targetChange .. => 0x43
  | .fault _ => 0x44
  | .faultCleared .. => 0x45
  | .sweepProgress _ => 0x46
  | .sweepEnd .. => 0x47
  | .reading .. => 0x48
  | .lineState .. => 0x49

/-- The tag of a record's frame (R197). -/
def Record.tag : Record → Byte
  | .reply tag _ _ _ => tag
  | .started _ (some tag) => tag
  | _ => 0

/-- The payload of a record (R204, R207). -/
def Record.payload : Record → List Byte
  | .reply _ status flags result => be1 status.code :: flags.byte :: result
  | .started cause _ => [be1 cause.code]
  | .requestState identity target level fate => be2 identity ++ [be1 target.val, be1 level, be1 fate.code]
  | .targetChange target origin kind level value identity locked =>
    [be1 target.val, be1 origin.code, be1 kind.code, be1 level] ++ be2 (value.getD 0xFFFF) ++ be2 (identity.getD 0) ++
      [flagByte locked]
  | .fault n =>
    (match n.target with
      | none => 0xFF
      | some t => be1 t.val) :: be1 n.cls.code :: n.source.bytes ++ be1 n.completion.code :: be2 n.detail1 ++
      be2 n.detail2 ++ [be1 n.outcome.code, n.marksByte, be1 n.superseded, be1 n.firstClass.code] ++ be4 n.stamp.toNat
  | .faultCleared target cause firstClass superseded =>
    [be1 target.val, be1 cause.code, be1 firstClass.code, be1 superseded]
  | .sweepProgress n =>
    [be1 n.zone.val, be1 n.result.code, be1 (skipCode n.reason), flagByte n.restartUsed, n.presenceByte] ++
      be2 (n.m0.getD 0) ++ be2 (n.m1.getD 0) ++ be2 (n.eg.getD 0) ++ be2 (n.df.getD 0)
  | .sweepEnd cause first last counts =>
    [be1 cause.code, be1 first.val, be1 last.val, be1 counts.done, be1 counts.failed, be1 counts.skipped,
      be1 counts.abandoned, be1 counts.disturbed]
  | .reading zone measure source output rampTarget origin kind level =>
    be1 zone.val :: be3 (measure.getD 0xFFFFFF) ++ be1 source.code :: be2 output ++ be2 rampTarget ++
      [be1 origin.code, be1 kind.code, be1 level]
  | .lineState line state listed => [be1 (lineCode line), be1 state.code, be1 listed]

/-- The bytes of a frame: start, length, kind, tag, payload, check (R187, R201). -/
def frameBytes (body : List Byte) : List Byte :=
  0xA5 :: checkedBytes body ++ halfBytes (crc16 (checkedBytes body))

/-- The bytes of the frame that the transmitter sends (R196, R197). -/
def OutFrame.bytes (f : OutFrame) : List Byte :=
  frameBytes (kindByte f.urgent f.record.code :: f.record.tag :: f.record.payload)

end Sys2Proof.Machine
end

