-- ==== Sys2Proof/Machine/Marking.lean ====
section
/-! DEFINITION. Marking of luminaires and their placing on a line's pending list (R152, R153). -/

namespace Sys2Proof.Machine

open Sys2Proof

/-- A transaction for the luminaire is in flight. -/
def Line.inFlight (r : Line) (a : Address) : Bool :=
  match r.transaction with
  | none => false
  | some t => t.address == a

/-- The line's record of a luminaire. -/
def Line.lum (r : Line) (a : Address) : Luminaire := r.lums.get a

/-- The line with another record of a luminaire. -/
def Line.setLum (r : Line) (a : Address) (v : Luminaire) : Line := { r with lums := r.lums.set a.val v a.isLt }

/-- Places a dirty luminaire at the tail unless it is listed, MISSING, or in flight (R152). -/
def Line.place (r : Line) (a : Address) : Line :=
  if (r.lum a).dirty && !r.list.contains a && (r.lum a).presence != .missing && !r.inFlight a then
    { r with list := r.list ++ [a] }
  else r

/-- Marks a luminaire dirty; one whose zone is NONE is not marked (R152). -/
def Line.mark (r : Line) (a : Address) : Line :=
  if (r.lum a).configured && (r.lum a).zone.isSome then
    (r.setLum a { r.lum a with dirty := true }).place a
  else r

/-- Marks the luminaires of the line that name a zone, in ascending order of address (R152). -/
def Line.markZone (r : Line) (z : ZoneId) : Line :=
  (allIds 96).foldl (fun r a => if (r.lum a).zone == some z then r.mark a else r) r

/-- Tells both engines that a zone's output has changed (R54). -/
def markZone (z : ZoneId) (s : State) : State :=
  { s with lineL0 := s.lineL0.markZone z, lineL1 := s.lineL1.markZone z }

end Sys2Proof.Machine
end

