-- ==== Sys2Proof/Machine/ZoneLoop.lean ====
section
/-! DEFINITION. The zone control loop (spec/03): measurement source and measure, bounds, rates, ramp and zone update. -/

namespace Sys2Proof.Machine

open Sys2Proof

/-- A copy under which the zone loop corrects: the base context, CAP or SETPOINT (R48). -/
def ContextCopy.measuring (c : ContextCopy) : Bool := c.kind != .fix

/-- The copy that a context-change event delivers (R46). -/
def Context.copy (c : Context) : ContextCopy := ⟨c.origin, c.kind, c.level, c.value, c.fade, c.locked⟩

/-- Brings a value within the bounds: first raised to the lower, then lowered to the upper (R50). -/
def clampLevel (cfg : ZoneConfig) (copy : ContextCopy) (v : Nat) : Nat :=
  let upper :=
    match copy.kind, copy.value with
    | .cap, some cap => min cfg.maxLevel cap
    | _, _ => cfg.maxLevel
  min (max v cfg.minLevel) upper

/-- The configured rates. -/
def ZoneConfig.rates (cfg : ZoneConfig) : Rates := .perSecond cfg.upRate cfg.downRate

/-- The ramp tick timer at the end of an event (R51). -/
def Zone.settleRamp (r : Zone) : Zone :=
  if r.output = r.rampTarget then { r with rampTimer := none }
  else if r.rampTimer.isNone then { r with rampTimer := some Config.rampTickMs }
  else r

/-- An immediate setting (R47). -/
def Zone.setImmediate (r : Zone) (v : Nat) : Zone :=
  { r with output := v, rampTarget := v, rampTimer := none, rates := .immediate }

/-- A context-change event: the copy, the ramp target, the rates and the ramp tick timer (R46, R51). -/
def Zone.takeContext (r : Zone) (c : Context) : Zone :=
  let r1 := { r with copy := c.copy }
  match c.kind, c.value with
  | .fix, some v =>
    match c.origin with
    | .calibrate => r1.setImmediate v
    | .fault =>
      if c.locked then r1.setImmediate v
      else ({ r1 with rampTarget := v, rates := r.cfg.rates } : Zone).settleRamp
    | _ =>
      if c.fade = 0 then r1.setImmediate v
      else ({ r1 with rampTarget := v, rates := .perSecond c.fade c.fade } : Zone).settleRamp
  | _, _ => ({ r1 with rampTarget := clampLevel r.cfg c.copy r.rampTarget, rates := r.cfg.rates } : Zone).settleRamp

/-- The step of one ramp tick at a rate per second (R52). -/
def tickStep (rate : Nat) : Nat := max 1 (rate / 10)

/-- A ramp tick (R52). -/
def Zone.rampTick (r : Zone) : Zone :=
  let output :=
    match r.rates with
    | .immediate => r.rampTarget
    | .perSecond up down =>
      if r.output < r.rampTarget then min r.rampTarget (r.output + tickStep up)
      else max r.rampTarget (r.output - tickStep down)
  ({ r with output := output, rampTimer := none } : Zone).settleRamp

/-- The selection of R41 for a zone. -/
def selectSource (s : State) (z : ZoneId) : Source :=
  let r := s.zone z
  if r.cfg.ceilingSensor && (s.view (ceilingChannel z)).valid then .direct
  else if (s.bay (bayOf z)).cfg.skySensor && (s.view (skyChannel (bayOf z))).valid then
    match r.cal with
    | some ⟨_, some _, _⟩ => .estimate
    | _ => .none
  else .none

/-- The measured illuminance M (R43). -/
def measure (s : State) (z : ZoneId) : Option Nat :=
  let r := s.zone z
  match r.source with
  | .none => none
  | .direct => (s.view (ceilingChannel z)).value
  | .estimate =>
    match (s.view (skyChannel (bayOf z))).value, r.cal with
    | some sky, some ⟨eg, some df, _⟩ => some (sky * df / 1000 + r.output * eg / 1000)
    | _, _ => none

/-- The target of a zone update (R49, step 1). -/
def Zone.target (r : Zone) : Nat :=
  match r.copy.kind, r.copy.value with
  | .setpoint, some v => v
  | _, _ => r.cfg.targetLux

/-- The gain of a zone (R49, step 5). -/
def Zone.gain (r : Zone) : Nat :=
  match r.cal with
  | some c => c.eg
  | none => r.cfg.nominalGain

/-- The correction of R49 from a measure: the division rounds toward zero. -/
def Zone.correct (r : Zone) (m : Nat) : Zone :=
  let e : Int := (r.target : Int) - m
  if e.natAbs ≤ r.cfg.deadband then r
  else
    let delta := (e * 500).tdiv r.gain
    ({ r with rampTarget := clampLevel r.cfg r.copy ((r.output : Int) + delta).toNat } : Zone).settleRamp

/-- Writes a zone record and marks the zone's luminaires when its output has changed (R54). -/
def putZone (z : ZoneId) (r : Zone) (s : State) : State :=
  if r.output = (s.zone z).output then s.setZone z r else markZone z (s.setZone z r)

/-- A governing sample: a zone update when the zone is ACTIVE, not settling and under a measuring context (R48, R49). -/
def governingSample (z : ZoneId) (s : State) : State :=
  let r := s.zone z
  if (s.target (zoneTarget z)).isActive && !r.settling && r.copy.measuring then
    match measure s z with
    | some m => s.setZone z (r.correct m)
    | none => s
  else s

/-- The READING notice of a zone (R63). -/
def readingOf (s : State) (z : ZoneId) : Record :=
  let r := s.zone z
  .reading z (measure s z) r.source r.output r.rampTarget r.copy.origin r.copy.kind r.copy.level

/-- Motion-start at a zone: an ACTIVE zone begins to settle (R55). -/
def zoneMotionStart (z : ZoneId) (s : State) : State :=
  if (s.target (zoneTarget z)).isActive then
    s.setZone z { s.zone z with settling := true, settleTimer := none }
  else s

/-- Motion-end at a zone: an ACTIVE settling zone starts its settle timer (R56). -/
def zoneMotionEnd (z : ZoneId) (s : State) : State :=
  if (s.target (zoneTarget z)).isActive && (s.zone z).settling then
    s.setZone z { s.zone z with settleTimer := startSeconds (s.bay (bayOf z)).cfg.settleInterval }
  else s

end Sys2Proof.Machine
end

