-- ==== Sys2Proof/Machine/Arbiter.lean ====
section
/-! DEFINITION. The Request Arbiter's stacks and Pending List (spec/04): push, replacement, removal, offer, fault insertion and
lock. Each of these is a part of a claim; what a claim hands on at its end stands in Machine/Cascade.lean. -/

namespace Sys2Proof.Machine

open Sys2Proof

/-- The value that a fault context of a target carries: its fallback level or fallback stop (R104). -/
def fallbackValue (s : State) (t : TargetId) : Nat :=
  match viewTarget t with
  | .zone z => (s.zone z).cfg.fallback
  | .shade b => (s.bay b).cfg.fallbackStop

/-- The identity stands on a stack or on the Pending List (R72). -/
def identityPresent (s : State) (identity : Nat) : Bool :=
  ((allIds 64).any fun t => (s.target t).above.any fun c => c.identity == some identity) ||
    s.pendingList.any fun e => e.identity == identity

/-- The HOST context of a request, with its hold timer started (R77). -/
def hostContext (level : Nat) (kind : Kind) (value fade : Nat) (hold : Option Nat) (identity : Nat) : Context :=
  ⟨.host, level, kind, some value, fade, hold.map (1000 * ·), some identity, false⟩

/-- The HOST context of an admitted entry (R81). -/
def Entry.context (e : Entry) : Context := hostContext e.level e.kind e.value e.fade e.hold e.identity

/-- The REQUEST STATE notice of a context; contexts other than HOST give none (R79, R92). -/
def contextNotice (t : TargetId) (fate : RequestFate) (c : Context) (s : State) : State :=
  match c.identity with
  | some identity => offerNotice (.requestState identity t c.level fate) s
  | none => s

/-- The REQUEST STATE notice of an entry (R92). -/
def entryNotice (fate : RequestFate) (e : Entry) (s : State) : State :=
  offerNotice (.requestState e.identity e.target e.level fate) s

/-- The TARGET CHANGE notice of a target's active context (R93). -/
def targetChangeOf (s : State) (t : TargetId) : Record :=
  let c := s.active t
  .targetChange t c.origin c.kind c.level c.value c.identity c.locked

/-- Pushes a context. A buried CALIBRATE context is removed (R77) and a buried fault context's window closes (R106); the
second part says whether an offer is then due. -/
def pushContext (t : TargetId) (c : Context) (s : State) : State × Bool :=
  let r := s.target t
  match r.above with
  | [] => (s.setTarget t { r with above := [c] }, false)
  | top :: rest =>
    match top.origin with
    | .calibrate => (s.setTarget t { r with above := c :: rest }, true)
    | .fault => (s.setTarget t { r with above := c :: top :: rest, window := false }, r.window)
    | _ => (s.setTarget t { r with above := c :: top :: rest }, false)

/-- Same-level replacement of the active HOST context, with DISPLACED for the old identity (R76). -/
def replaceActive (t : TargetId) (c : Context) (s : State) : State :=
  let r := s.target t
  match r.above with
  | [] => s
  | top :: rest => contextNotice t .displaced top (s.setTarget t { r with above := c :: rest })

/-- An entry leaves the Pending List. -/
def dropEntry (identity : Nat) (s : State) : State :=
  s.setPendingList (s.pendingList.filter fun e => e.identity != identity)

/-- The entry is placed after every entry of lower or equal level (R78). -/
def placeEntry (e : Entry) : List Entry → List Entry
  | [] => [e]
  | x :: xs => if x.level ≤ e.level then x :: placeEntry e xs else e :: x :: xs

/-- An offer to a target (R80, R81). A push that buries a CALIBRATE context or closes a window leads to a further offer, and
each offer before it has taken an entry off the list, so `n` offers suffice for a list of `n` entries. -/
def offerUpTo : Nat → TargetId → State → State
  | 0, _, s => s
  | n + 1, t, s =>
    let r := s.target t
    match s.pendingList.find? fun e => e.target == t with
    | none => s
    | some e =>
      let active := r.active.level
      if e.level < active && r.above.length < Config.stackCap && (!r.window || e.level == 0) then
        let (s1, again) := pushContext t e.context (dropEntry e.identity s)
        let s2 := entryNotice .active e s1
        if again then offerUpTo n t s2 else s2
      else if e.level == active then
        entryNotice .active e (replaceActive t e.context (dropEntry e.identity s))
      else s

/-- The offer that ends a claim on a target which is still ACTIVE (R79, R80). -/
def offer (t : TargetId) (s : State) : State :=
  if (s.target t).isActive then offerUpTo s.pendingList.length t s else s

/-- Pushes a context and makes the offer that the push leads to (R77). -/
def pushClaim (t : TargetId) (c : Context) (s : State) : State :=
  let (s1, again) := pushContext t c s
  if again then offer t s1 else s1

/-- A stack whose top is a fault context with its locked mark clear. -/
def topUnlockedFault : List Context → Bool
  | [] => false
  | c :: _ => c.origin == .fault && !c.locked

/-- The top of a stack is a fault context. -/
def topFault : List Context → Bool
  | [] => false
  | c :: _ => c.origin == .fault

/-- Removes the contexts that fail `keep`. A removal that exposes an unlocked fault context opens its window (R87, R106). -/
def removeContexts (t : TargetId) (keep : Context → Bool) (s : State) : State :=
  let r := s.target t
  let above := r.above.filter keep
  s.setTarget t { r with above := above, window := r.window || (topUnlockedFault above && !topFault r.above) }

/-- Removes a fault context and clears the window mark (R88). -/
def removeFaultContext (t : TargetId) (s : State) : State :=
  let r := s.target t
  s.setTarget t { r with above := r.above.filter fun c => c.origin != .fault, window := false }

/-- The fault context of a target (R66, R86). -/
def faultContext (value : Nat) (locked : Bool) : Context := ⟨.fault, 2, .fix, some value, 0, none, none, locked⟩

/-- Places a fault context above every context of a level above 2 and beneath those of level 0 or 1; a CALIBRATE context that
it buries goes (R86). -/
def placeFault (c : Context) : List Context → List Context
  | [] => [c]
  | x :: xs =>
    if x.level < 2 then x :: placeFault c xs
    else if x.origin == .calibrate then c :: xs
    else c :: x :: xs

/-- Insertion of a fault context with the eviction of a full stack's bottom-most context (R86); a context that becomes active
with its locked mark clear opens its window (R87). -/
def insertFault (t : TargetId) (locked : Bool) (s : State) : State :=
  let r := s.target t
  let value := fallbackValue s t
  let full := Config.stackCap ≤ r.above.length
  let kept := if full then r.above.dropLast else r.above
  let above := placeFault (faultContext value locked) kept
  let s1 := s.setTarget t { r with above := above, window := r.window || topUnlockedFault above }
  if full then
    match r.above.getLast? with
    | some c => contextNotice t .discarded c s1
    | none => s1
  else s1

/-- The insertion removed a context: the evicted one or a buried CALIBRATE context (R86). -/
def insertionRemoves (r : Target) : Bool :=
  Config.stackCap ≤ r.above.length || r.above.any fun c => c.origin == .calibrate

/-- The contexts that a lock keeps: the fault context and level-0 contexts (R88). -/
def keptByLock (c : Context) : Bool := c.origin == .fault || c.level == 0

/-- The Arbiter's part of a lock (R88, R110). -/
def lockTarget (t : TargetId) (s : State) : State :=
  let gone := s.pendingList.filter fun e => e.target == t
  let s1 := gone.foldl (fun s e => entryNotice .discarded e s)
    (s.setPendingList (s.pendingList.filter fun e => e.target != t))
  let s2 := if (s1.target t).hasFaultContext then s1 else insertFault t true s1
  let r := s2.target t
  let above := (r.above.filter keptByLock).map fun c => if c.origin == .fault then { c with locked := true } else c
  (r.above.filter fun c => !keptByLock c).foldl (fun s c => contextNotice t .discarded c s)
    (s2.setTarget t { r with above := above, window := false })

end Sys2Proof.Machine
end

