-- ==== Sys2Proof/Machine/Faults.lean ====
section
/-! DEFINITION. The Fault Unit (spec/05): raises, end reports, the entry window's close and clearing. What a claim hands on at
its end is given by the caller as a `Finisher` (Machine/Cascade.lean), so that the blocks of one event can act on one another
to a bounded depth (assumption log 15). -/

namespace Sys2Proof.Machine

open Sys2Proof

/-- The end of a claim on a target, given the active context with which the claim began (R91). -/
abbrev Finisher := TargetId → Context → State → State

/-- The classes whose condition ends by a report (R96). -/
def FaultClass.selfClearing : FaultClass → Bool
  | .sensorSilent | .sensorRange | .sensorStuck | .measureLost | .luminaireMissing | .luminaireMismatch => true
  | _ => false

/-- What a raise carries beside its target (R96). -/
structure Raise where
  cls : FaultClass
  source : FaultSource
  completion : Completion
  detail1 : Nat
  detail2 : Nat
  deriving DecidableEq, Repr

/-- Adds the condition of a self-clearing raise to the open set, or latches (R101, R102). -/
def FaultRecord.addCondition (f : FaultRecord) (r : Raise) : FaultRecord :=
  if r.cls.selfClearing then
    if f.openSet.contains ⟨r.cls, r.source⟩ then f
    else if f.openSet.length < Config.openSetCap then { f with openSet := f.openSet ++ [⟨r.cls, r.source⟩] }
    else { f with latched := true }
  else { f with latched := true }

/-- The context at fault of a record created now: absent when the target is not ACTIVE (R102). -/
def contextAtFault (s : State) (t : TargetId) : Option ContextAtFault :=
  if (s.target t).isActive then
    let c := s.active t
    some ⟨c.origin, c.kind, c.level⟩
  else none

/-- The record of a target after a raise, before a lock (R102). -/
def recordRaise (s : State) (t : TargetId) (r : Raise) : FaultRecord :=
  match (s.target t).fault with
  | none =>
    FaultRecord.addCondition
      { firstClass := r.cls, latestClass := r.cls, source := r.source, stamp := s.seconds, context := contextAtFault s t,
        completion := r.completion, detail1 := r.detail1, detail2 := r.detail2, openSet := [], latched := false,
        superseded := 0, lockMark := false } r
  | some f =>
    FaultRecord.addCondition
      { f with latestClass := r.cls, source := r.source, completion := r.completion, detail1 := r.detail1,
               detail2 := r.detail2, superseded := min 255 (f.superseded + 1) } r

/-- The outcome of a raise: the first row of R103 that fits. -/
def raiseOutcome (s : State) (t : TargetId) (cls : FaultClass) : FaultOutcome :=
  let r := s.target t
  if !r.isActive then .recorded
  else if r.locked then .recorded
  else if r.window then .lock
  else
    match (s.response cls).action with
    | .lock => .lock
    | .fallback => if r.hasFaultContext then .recorded else .contextInserted
    | .report => .recorded

/-- Routes a FAULT notice: by the alarm flag of its class, and as an alarm for the outcome LOCK (R116). -/
def routeFault (n : FaultNotice) (s : State) : State :=
  if n.outcome == .lock || (s.response n.cls).alarm then offerAlarm (.fault n) s else offerNotice (.fault n) s

/-- The record of a raise and its FAULT notice (R102, R110 step 1, R115). -/
def noteRaise (t : TargetId) (r : Raise) (s : State) : State :=
  let outcome := raiseOutcome s t r.cls
  let f0 := recordRaise s t r
  let f := if outcome = .lock then { f0 with lockMark := true } else f0
  let s1 := s.setTarget t { s.target t with fault := some f }
  routeFault
    { target := some t, cls := r.cls, source := r.source, completion := r.completion, detail1 := r.detail1,
      detail2 := r.detail2, outcome := outcome, created := (s.target t).fault.isNone, locked := f.lockMark,
      superseded := f.superseded, firstClass := f.firstClass, stamp := s.seconds } s1

/-- The insertion claim of a raise with the offer that ends it (R86, R104). -/
def insertionClaim (t : TargetId) (s : State) : State :=
  let s1 := insertFault t false s
  if insertionRemoves (s.target t) then offer t s1 else s1

/-- A raise against a target, taken whole (R102, R103, R104, R110). -/
def raiseFault (fin : Finisher) (t : TargetId) (r : Raise) (s : State) : State :=
  let before := s.active t
  let s1 := noteRaise t r s
  match raiseOutcome s t r.cls with
  | .recorded => s1
  | .contextInserted => fin t before (insertionClaim t s1)
  | .lock => fin t before (lockTarget t s1)

/-- A raise without a target, for a luminaire with zone NONE (R97, R207). -/
def raiseUntargeted (r : Raise) (s : State) : State :=
  routeFault
    { target := none, cls := r.cls, source := r.source, completion := r.completion, detail1 := r.detail1,
      detail2 := r.detail2, outcome := .recorded, created := false, locked := false, superseded := 0, firstClass := r.cls,
      stamp := s.seconds } s

/-- Deletes a fault record with its FAULT CLEARED notice (R115). -/
def clearRecord (t : TargetId) (cause : ClearCause) (f : FaultRecord) (s : State) : State :=
  offerNotice (.faultCleared t cause f.firstClass f.superseded) (s.setTarget t { s.target t with fault := none })

/-- The removal claim of a fault context with its one offer (R88). -/
def removalClaim (t : TargetId) (s : State) : State :=
  if (s.target t).hasFaultContext then offer t (removeFaultContext t s) else s

/-- An end report (R101, R112). -/
def endReport (fin : Finisher) (t : TargetId) (c : Condition) (s : State) : State :=
  match (s.target t).fault with
  | none => s
  | some f =>
    if f.openSet.contains c then
      let openSet := f.openSet.erase c
      if openSet.isEmpty && !f.latched && !f.lockMark then
        fin t (s.active t) (removalClaim t (clearRecord t .self f s))
      else s.setTarget t { s.target t with fault := some { f with openSet := openSet } }
    else s

/-- A report that closes the entry window: it is discarded when the window is closed (R106); the mark is cleared with an
offer (R87). -/
def closeWindow (fin : Finisher) (t : TargetId) (s : State) : State :=
  let r := s.target t
  if r.window then fin t r.active (offer t (s.setTarget t { r with window := false })) else s

end Sys2Proof.Machine
end

