-- ==== Sys2Proof/Machine/Drives.lean ====
section
/-! DEFINITION. The Shade Drives and the Drive Power Arbiter (spec/06): power, entry to the drive states, verification,
failure, and what a drive does with the desired stop that a claim hands it. The step event stands in Machine/DriveEvents.lean. -/

namespace Sys2Proof.Machine

open Sys2Proof

/-! ### Power (R136, R137) -/

/-- The grants held (R136). -/
def grantsHeld (s : State) : Nat := (allIds 16).countP fun b => (s.drive b).grant

/-- A drive receives a grant and goes to ENERGIZING (R124, R136). -/
def giveGrant (b : BayId) (s : State) : State :=
  s.setDrive b { s.drive b with state := .energizing, grant := true, energiseTimer := some Config.energiseMs,
                                waitTimer := none }

/-- A drive goes to WAIT_POWER and asks for a grant: one that is free is given at once, else the drive joins the tail of the
queue (R136). -/
def askPower (b : BayId) (s : State) : State :=
  if grantsHeld s < Config.grantCount then giveGrant b s
  else
    (s.setDrive b { s.drive b with state := .waitPower, waitTimer := some Config.powerWaitMs }).setGrantQueue
      (s.grantQueue ++ [b])

/-- A drive releases its grant, which goes to the head of the queue in the same event (R136). -/
def releasePower (b : BayId) (s : State) : State :=
  let s1 := s.setDrive b { s.drive b with grant := false }
  match s1.grantQueue with
  | [] => s1
  | h :: rest => giveGrant h (s1.setGrantQueue rest)

/-- A drive leaves the queue without a raise; those behind it keep their order (R136, R138). -/
def leaveQueue (b : BayId) (s : State) : State :=
  (s.setDrive b { s.drive b with waitTimer := none }).setGrantQueue (s.grantQueue.filter fun x => x != b)

/-- A movement is needed (R123). -/
def movementNeeded (s : State) (b : BayId) : Bool :=
  let d := s.drive b
  d.desired.isSome && d.position != d.desired && !(s.bay b).halted && !d.powerTimeout

/-- The test of a drive in IDLE (R123). -/
def testMovement (b : BayId) (s : State) : State := if movementNeeded s b then askPower b s else s

/-- Entry to IDLE (R123). -/
def enterIdle (b : BayId) (s : State) : State :=
  testMovement b (s.setDrive b { s.drive b with state := .idle, energiseTimer := none, holdTimer := none })

/-- Entry to OFF, with the position rule of a CONFIGURE BAY taken meanwhile (R14, R20, R21, R138, R142). -/
def enterOff (b : BayId) (s : State) : State :=
  let d := s.drive b
  s.setDrive b { d with state := .off, desired := none, following := false, powerTimeout := false, energiseTimer := none,
                        holdTimer := none, position := if d.positionRule then none else d.position,
                        positionRule := false }

/-- Clears the halted mark of a bay. -/
def clearHalted (b : BayId) (s : State) : State := s.setBay b { s.bay b with halted := false }

/-! ### Rest and motion -/

/-- What a drive that leaves the motion states no longer holds: the step timer, the verification and the pending stop. -/
def Drive.atRest (d : Drive) : Drive :=
  { d with pendingStop := .none, phase := .none, verifyStop := none, searchCount := 0, stepTimer := none,
           verifyAbandoned := false, homingRestart := false }

/-- The motion-end report: to the Zone Controller, and to the Fault Unit when the fault-following mark was set when the event
began (R56, R125, R142). -/
def motionEnd (fin : Finisher) (b : BayId) (following : Bool) (s : State) : State :=
  let s1 := (zonesOf b).foldl (fun s z => zoneMotionEnd z s) s
  if following then closeWindow fin (shadeTarget b) s1 else s1

/-- Entry to HOLDING (R131). -/
def enterHolding (b : BayId) (s : State) : State :=
  s.setDrive b { (s.drive b).atRest with state := .holding, energiseTimer := none, holdTimer := some Config.driveHoldMs }

/-- Arrival in HOLDING ends the movement (R125, R131). -/
def endInHolding (fin : Finisher) (b : BayId) (following : Bool) (s : State) : State :=
  motionEnd fin b following (enterHolding b s)

/-- A raise of a drive, against its shade target with the bay number as the source (R132). -/
def driveRaise (b : BayId) (cls : FaultClass) (completion : Completion) (d1 d2 : Nat) : Raise :=
  ⟨cls, .bay b, completion, d1, d2⟩

/-- Entry to FAILED: the raise goes to the Fault Unit first, the motion-end after it (R132). -/
def failDrive (fin : Finisher) (b : BayId) (following : Bool) (cls : FaultClass) (d1 d2 : Nat) (s : State) : State :=
  let s1 := s.setDrive b { (s.drive b).atRest with state := .failed, position := none, homingCount := 0 }
  motionEnd fin b following
    (raiseFault fin (shadeTarget b) (driveRaise b cls .incomplete d1 d2) (releasePower b s1))

/-- The stop of a present position or desired stop as a detail value; 0 where it is absent. -/
def stopOf (p : Option Nat) : Nat := p.getD 0

/-- A mismatch reading mark `n` where `v / 16` was expected (R130). A first one corrects the position and the drive goes on to
MOVING; a desired stop equal to the corrected position is an arrival whose verification this same mark confirms. The raise
finds the drive in MOVING, and the comparison takes the desired stop as it is after the raise (DESIGN CHOICE, log 39). -/
def mismatch (fin : Finisher) (b : BayId) (following : Bool) (v n : Nat) (s : State) : State :=
  let d := s.drive b
  if d.mismatchCount = 0 then
    let s1 := s.setDrive b { d with position := some (16 * n), mismatchCount := 1, phase := .none, verifyStop := none,
                                    searchCount := 0, state := .moving }
    let s2 := raiseFault fin (shadeTarget b) (driveRaise b .shadeVerifyError .complete (v / 16) n) s1
    let d2 := s2.drive b
    if d2.state = .moving ∧ d2.desired = some (16 * n) then endInHolding fin b following s2 else s2
  else failDrive fin b following .shadeSeekError 2 (16 * n) s

/-- Judges a sample of MARK in phase SEEK (R129). -/
def judgeMark (fin : Finisher) (b : BayId) (following : Bool) (s : State) : State :=
  let d := s.drive b
  match d.verifyStop, s.markIn.get b with
  | some v, some n =>
    if n.val = v / 16 ∧ d.position = some v then
      if d.desired = some v then endInHolding fin b following s else s.setDrive b { d with phase := .ret }
    else mismatch fin b following v n.val s
  | _, none =>
    if Config.searchLimit ≤ d.searchCount then failDrive fin b following .shadeSeekError 3 (stopOf d.position) s else s
  | none, some _ => s

/-- The mark stop at which a desired stop is verified; none for 233 to 239 (R128). -/
def verifyStopOf (d : Nat) : Option Nat := if 16 * ((d + 7) / 16) ≤ 224 then some (16 * ((d + 7) / 16)) else none

/-- Arrival at the desired stop (R127, R128). -/
def arrive (fin : Finisher) (b : BayId) (following : Bool) (s : State) : State :=
  let d := s.drive b
  match (s.bay b).cfg.verify, verifyStopOf (stopOf d.desired) with
  | true, some v =>
    judgeMark fin b following
      (s.setDrive b { d with state := .verifying, phase := .seek, verifyStop := some v, searchCount := 0,
                             verifyAbandoned := false })
  | _, _ => endInHolding fin b following s

/-- Entry to MOVING: the comparison with the desired stop; a first step waits for the step event (R127, log 7). -/
def enterMoving (fin : Finisher) (b : BayId) (following : Bool) (s : State) : State :=
  let d := s.drive b
  let s1 := s.setDrive b { d with state := .moving, phase := .none, verifyStop := none, searchCount := 0,
                                  verifyAbandoned := false, homingRestart := false }
  if d.desired.isSome ∧ d.position = d.desired then arrive fin b following s1 else s1

/-- Entry to HOMING, which samples HOME (R126). -/
def enterHoming (fin : Finisher) (b : BayId) (following : Bool) (s : State) : State :=
  let d := { s.drive b with state := .homing, homingCount := 0, position := none, phase := .none, verifyStop := none,
                            searchCount := 0, verifyAbandoned := false, homingRestart := false }
  if s.homeIn.get b then enterMoving fin b following (s.setDrive b { d with position := some 0 })
  else s.setDrive b d

/-- The step interval of a bay, in milliseconds (R125). -/
def stepInterval (s : State) (b : BayId) : Nat := 1000 / (s.bay b).cfg.stepRate

/-- The start of a movement from ENERGIZING or HOLDING (R124, R125, R131). -/
def startMovement (fin : Finisher) (b : BayId) (following : Bool) (s : State) : State :=
  let d := s.drive b
  let s1 := s.setDrive b { d with firstStep := false, mismatchCount := 0, energiseTimer := none, holdTimer := none,
                                  stepTimer := some (stepInterval s b) }
  if d.position.isNone then enterHoming fin b following s1 else enterMoving fin b following s1

/-! ### Desired stops -/

/-- A loss of desired stop (R134, R135). -/
def loseDesired (b : BayId) (s : State) : State :=
  let d := s.drive b
  match d.state with
  | .homing | .moving | .verifying =>
    if d.pendingStop = .off then s else s.setDrive b { d with pendingStop := .release }
  | .energizing | .holding =>
    enterIdle b (releasePower b (s.setDrive b { d with energiseTimer := none, holdTimer := none }))
  | .waitPower => enterIdle b (leaveQueue b s)
  | _ => s

/-- A change withdraws a pending HALT or RELEASE (R133). -/
def PendingStop.afterChange : PendingStop → PendingStop
  | .halt | .release => .none
  | p => p

/-- A change of desired stop, after the drive has taken the new stop (R133). -/
def changeDesired (fin : Finisher) (b : BayId) (following : Bool) (s : State) : State :=
  let s1 := clearHalted b (s.setDrive b { s.drive b with powerTimeout := false,
                                                         pendingStop := (s.drive b).pendingStop.afterChange })
  let d := s1.drive b
  match d.state with
  | .idle => testMovement b s1
  | .waitPower => if d.position = d.desired then enterIdle b (leaveQueue b s1) else s1
  | .verifying => s1.setDrive b { d with verifyAbandoned := true }
  | .holding => if movementNeeded s1 b then startMovement fin b following s1 else s1
  | _ => s1

/-- A FAILED drive leaves FAILED for IDLE with its halted and power-timeout marks cleared: the start of a recovery attempt or
of a homing attempt (R143, R144). -/
def leaveFailed (b : BayId) (s : State) : State :=
  enterIdle b (clearHalted b (s.setDrive b { s.drive b with powerTimeout := false, position := none }))

/-- The hand-off to a drive: the desired stop, and whether an unlocked fault context is the active context (R121, R142). -/
def driveHandoff (fin : Finisher) (b : BayId) (handed : Option Nat) (faultActive : Bool) (s : State) : State :=
  let d := s.drive b
  if d.state = .off then s
  else
    let sets := faultActive && !d.following
    let s1 := s.setDrive b { d with desired := handed, following := faultActive }
    let changed := handed.isSome && handed != d.desired
    if handed.isNone then loseDesired b s1
    else if sets && d.state == .failed then leaveFailed b s1
    else
      let s2 := if changed then changeDesired fin b d.following s1 else s1
      let atRest := (s2.drive b).state == .idle || ((s2.drive b).state == .holding && d.state == .holding &&
        !(changed && d.position != handed))
      if sets && atRest then closeWindow fin (shadeTarget b) s2 else s2

end Sys2Proof.Machine
end

