-- ==== Sys2Proof/Machine/SweepStart.lean ====
section
/-! DEFINITION. The Calibration Sequencer between zones (spec/08): freezing a bay, starting a zone, abandoning one, going on to
the next, and ending the sweep. -/

namespace Sys2Proof.Machine

open Sys2Proof

/-- A frozen or disabled glare machine returns from a pending state to its origin, its timer stopped (R20, R61). -/
def Bay.returnPending (r : Bay) : Bay :=
  { r with
    glareTimer := none
    glare :=
      match r.glare with
      | .glarePending => .clear
      | .clearPending => .glare
      | g => g }

/-- A freeze event of the Sequencer (R61, R172). -/
def freezeBay (b : BayId) (s : State) : State := s.setBay b { (s.bay b).returnPending with frozen := true }

/-- An unfreeze event of the Sequencer (R176). -/
def unfreezeBay (b : BayId) (s : State) : State := s.setBay b { s.bay b with frozen := false }

/-- Adds a zone's result to its count (R170). -/
def SweepCounts.add (c : SweepCounts) : ZoneResult → SweepCounts
  | .done => { c with done := c.done + 1 }
  | .failed => { c with failed := c.failed + 1 }
  | .skipped => { c with skipped := c.skipped + 1 }
  | .abandoned => { c with abandoned := c.abandoned + 1 }
  | .disturbed => { c with disturbed := c.disturbed + 1 }

/-- A zone leaves the sweep record (R176 step 4). -/
def Sweep.clearZone (r : Sweep) : Sweep :=
  { r with current := none, phase := .none, timer := none, ceilingValid := false, latestSky := none, m0 := none,
           s0 := none, m1 := none, s1 := none }

/-- Counts a zone's result and sends its SWEEP PROGRESS, with the readings as the record holds them; the zone then leaves the
record (R176 step 4, R183). -/
def reportZone (z : ZoneId) (result : ZoneResult) (eg df : Option Nat) (s : State) : State :=
  let r := s.sweep
  offerNotice (.sweepProgress ⟨z, result, none, r.restartUsed, r.m0, r.m1, eg, df⟩)
    (s.setSweep { r.clearZone with counts := r.counts.add result })

/-- A skipped zone (R171, R183). -/
def skipZone (z : ZoneId) (reason : SkipReason) (s : State) : State :=
  offerNotice (.sweepProgress ⟨z, .skipped, some reason, false, none, none, none, none⟩)
    (s.setSweep { s.sweep with counts := s.sweep.counts.add .skipped })

/-- SWEEP END; the sweep returns to IDLE (R184). -/
def endSweep (cause : SweepCause) (s : State) : State :=
  let r := s.sweep
  offerNotice (.sweepEnd cause r.first r.last r.counts) (s.setSweep { r.clearZone with state := .idle })

/-- The judgement of the start of a zone: the reason to skip it, or none when the push is accepted (R89, R171). -/
def skipReason (s : State) (z : ZoneId) : Option SkipReason :=
  let t := s.target (zoneTarget z)
  if !t.isActive || t.locked then some .notActive
  else if (s.zone z).source != .direct then some .noSensor
  else if t.active.level < 12 then some .overridden
  else none

/-- A CALIBRATE context (R66). -/
def calibrateContext (value : Nat) : Context := ⟨.calibrate, 12, .fix, some value, 0, none, none, false⟩

/-- Starts a zone whose push is accepted: the context, the sweep record, the freeze, and the hand-off of the claim (R172). -/
def takeZone (fin : Finisher) (z : ZoneId) (s : State) : State :=
  let t := zoneTarget z
  let before := s.active t
  let s1 := s.setTarget t { s.target t with above := calibrateContext 0 :: (s.target t).above }
  let s2 := s1.setSweep { s1.sweep.clearZone with current := some z, restartUsed := false, ceilingValid := true,
                                                  phase := .darkSettle, timer := startSeconds s1.sweep.settle }
  fin t before (freezeBay (bayOf z) s2)

/-- Starts the first zone of a list that is not skipped; a sweep with none left ends COMPLETE (R170, R171). -/
def startZones (fin : Finisher) : List ZoneId → State → State
  | [], s => endSweep .complete s
  | z :: zs, s =>
    match skipReason s z with
    | some reason => startZones fin zs (skipZone z reason s)
    | none => takeZone fin z s

/-- The zones of a range, ascending. -/
def zonesBetween (first last : Nat) : List ZoneId := (allIds 48).filter fun z => first ≤ z.val && z.val ≤ last

/-- What follows the end of a zone (R170). -/
def proceed (fin : Finisher) (z : ZoneId) (s : State) : State :=
  match s.sweep.state with
  | .running => startZones fin (zonesBetween (z.val + 1) s.sweep.last.val) s
  | .stopping => endSweep .stopped s
  | .idle => s

/-- The stack of a zone holds a CALIBRATE context. -/
def hasCalibrate (s : State) (z : ZoneId) : Bool := (s.target (zoneTarget z)).above.any fun c => c.origin == .calibrate

/-- The Sequencer learns at the end of a claim that its CALIBRATE context has been removed: the zone is ABANDONED (R91, R179).
Its own pop clears the current zone first, so that no report reaches it (R180). -/
def checkPreempted (fin : Finisher) (s : State) : State :=
  match s.sweep.current with
  | none => s
  | some z =>
    if hasCalibrate s z then s
    else proceed fin z (reportZone z .abandoned none none (unfreezeBay (bayOf z) s))

end Sys2Proof.Machine
end

