-- ==== Sys2Proof/Machine/Cascade.lean ====
section
/-! DEFINITION. What the Arbiter hands on at the end of a claim (R91): the context-change event to the Zone Controller with
MEASURE_LOST (R44) and the arrival report (R53), the desired stop to the Shade Drive, TARGET CHANGE (R93), and the removal of
a CALIBRATE context to the Sequencer. -/

namespace Sys2Proof.Machine

open Sys2Proof

/-- The MEASURE_LOST raise of a zone, with the source held before and the level of the copy (R44). -/
def measureLostRaise (z : ZoneId) (heldBefore : Source) (level : Nat) : Raise :=
  ⟨.measureLost, .channel (ceilingChannel z), .notApplicable, heldBefore.code, level⟩

/-- Sets the measure-lost mark and raises MEASURE_LOST (R44). -/
def raiseMeasureLost (fin : Finisher) (z : ZoneId) (heldBefore : Source) (s : State) : State :=
  raiseFault fin (zoneTarget z) (measureLostRaise z heldBefore (s.zone z).copy.level)
    (s.setZone z { s.zone z with measureLost := true })

/-- The report that the output equals the fault context's value (R53). -/
def reportFallback (fin : Finisher) (z : ZoneId) (s : State) : State :=
  let r := s.zone z
  if r.copy.origin = .fault ∧ r.copy.value = some r.output then closeWindow fin (zoneTarget z) s else s

/-- A context-change event at the Zone Controller (R44, R46, R53). -/
def handZone (fin : Finisher) (z : ZoneId) (s : State) : State :=
  let s1 := putZone z ((s.zone z).takeContext (s.active (zoneTarget z))) s
  let r := s1.zone z
  if r.copy.measuring && r.source == .none && !r.measureLost then raiseMeasureLost fin z .none s1
  else reportFallback fin z s1

/-- The desired stop that a shade target's active context gives: none under a locked fault context (R68, R91). -/
def desiredOf (c : Context) : Option Nat := if c.origin = .fault ∧ c.locked = true then none else c.value

/-- An unlocked fault context is the active context: the Fault Unit's news to the drive (R105, R142). -/
def followsFault (c : Context) : Bool := c.origin == .fault && !c.locked

/-- Hands a changed active context on to the block that controls the target (R91). -/
def handTarget (fin : Finisher) (t : TargetId) (s : State) : State :=
  match viewTarget t with
  | .zone z => handZone fin z s
  | .shade b => driveHandoff fin b (desiredOf (s.active t)) (followsFault (s.active t)) s

/-- The fields that the end of a claim compares; of the hold, its presence (R91). -/
def sameContext (a b : Context) : Bool :=
  a.origin == b.origin && a.level == b.level && a.kind == b.kind && a.value == b.value && a.fade == b.fade &&
    a.hold.isSome == b.hold.isSome && a.identity == b.identity && a.locked == b.locked

/-- The TARGET CHANGE of a watched target (R93). -/
def noteChange (t : TargetId) (s : State) : State :=
  if (s.target t).watch then offerNotice (targetChangeOf s t) s else s

/-- The end of a claim on a target (R85, R91, R93): TARGET CHANGE, then the hand-off with all that it leads to, and last the
report of a removed CALIBRATE context to the Sequencer (DESIGN CHOICE, log 37: R91 and R179 do not order these two). -/
def finishWith (fin : Finisher) (t : TargetId) (before : Context) (s : State) : State :=
  let s1 :=
    if (s.target t).isActive && !sameContext before (s.active t) then handTarget fin t (noteChange t s) else s
  checkPreempted fin s1

/-- The end of a claim, with the claims that its hand-offs lead to followed to a depth of `n` (log 15). -/
def finishClaim : Nat → Finisher
  | 0 => fun _ _ s => s
  | n + 1 => finishWith (finishClaim n)

/-- The end of a claim. -/
def finish : Finisher := finishClaim Config.handDepth

end Sys2Proof.Machine
end

