-- ==== Sys2Proof/Machine/Glare.lean ====
section
/-! DEFINITION. The glare state machines (R58 to R62) and the selection of a zone's measurement source with MEASURE_LOST
(R42, R44, R45). -/

namespace Sys2Proof.Machine

open Sys2Proof

/-- The base stop of a bay in a glare state (R7, R62). -/
def BayConfig.baseStop (c : BayConfig) : Glare → Nat
  | .clear | .glarePending => c.openStop
  | .glare | .clearPending => c.glareStop

/-- Writes a glare state with its hold timer; a changed base stop is handed to the Arbiter as the base context's value in the
same event (R62, R90). -/
def putGlare (fin : Finisher) (b : BayId) (g : Glare) (timer : Timer) (s : State) : State :=
  let r := s.bay b
  let t := shadeTarget b
  let s1 := s.setBay b { r with glare := g, glareTimer := timer }
  if r.cfg.baseStop g = r.cfg.baseStop r.glare then s1
  else fin t (s.active t) (s1.setTarget t { s1.target t with baseValue := some (r.cfg.baseStop g) })

/-- The transition of a publication carrying `v`: the new state and hold timer, or none for "remains" (R59). A hold of 0 s
completes in the same event. -/
def glareTransition (c : BayConfig) (g : Glare) (v : Nat) : Option (Glare × Timer) :=
  match g with
  | .clear =>
    if c.glareOn ≤ v then some (if c.glareOnHold = 0 then (.glare, none) else (.glarePending, startSeconds c.glareOnHold))
    else none
  | .glarePending => if v < c.glareOn then some (.clear, none) else none
  | .glare =>
    if v ≤ c.glareOff then
      some (if c.glareOffHold = 0 then (.clear, none) else (.clearPending, startSeconds c.glareOffHold))
    else none
  | .clearPending => if c.glareOff < v then some (.glare, none) else none

/-- A publication of the sky channel at the bay's glare machine (R58, R59). -/
def glarePublication (fin : Finisher) (b : BayId) (v : Nat) (s : State) : State :=
  let r := s.bay b
  if r.cfg.skySensor && (s.target (shadeTarget b)).isActive && !r.frozen then
    match glareTransition r.cfg r.glare v with
    | some (g, timer) => putGlare fin b g timer s
    | none => s
  else s

/-- The state that a pending glare state completes to (R60). -/
def Glare.completed : Glare → Glare
  | .glarePending => .glare
  | .clearPending => .clear
  | g => g

/-- Selects a zone's measurement source again, for an ACTIVE zone (R42), with the MEASURE_LOST rules (R44, R45). -/
def reselect (fin : Finisher) (z : ZoneId) (s : State) : State :=
  let r := s.zone z
  let new := selectSource s z
  if !(s.target (zoneTarget z)).isActive || new == r.source then s
  else
    let s1 := s.setZone z { r with source := new }
    if new = .none then
      if r.copy.measuring && !r.measureLost then raiseMeasureLost fin z r.source s1 else s1
    else if r.measureLost then
      endReport fin (zoneTarget z) ⟨.measureLost, .channel (ceilingChannel z)⟩
        (s1.setZone z { s1.zone z with measureLost := false })
    else s1

end Sys2Proof.Machine
end

