-- ==== Sys2Proof/Machine/Sequencer.lean ====
section
/-! DEFINITION. The Calibration Sequencer within a zone (spec/08): the value changes and the pop of its context, the readings,
disturbances, and the result of a zone. -/

namespace Sys2Proof.Machine

open Sys2Proof

/-- The value of the CALIBRATE context of a zone (R66). -/
def calibrateValue (s : State) (z : ZoneId) : Option Nat :=
  ((s.target (zoneTarget z)).above.find? fun c => c.origin == .calibrate).bind fun c => c.value

/-- A value-change claim (R89, R173). -/
def changeValue (fin : Finisher) (z : ZoneId) (v : Nat) (s : State) : State :=
  let t := zoneTarget z
  let above := (s.target t).above.map fun c => if c.origin == .calibrate then { c with value := some v } else c
  fin t (s.active t) (s.setTarget t { s.target t with above := above })

/-- A pop claim with the offer that ends it (R89, R176 step 1). -/
def popClaim (fin : Finisher) (z : ZoneId) (s : State) : State :=
  let t := zoneTarget z
  fin t (s.active t) (offer t (removeContexts t (fun c => c.origin != .calibrate) s))

/-- The raise of an implausible measurement (R175). -/
def implausibleRaise (z : ZoneId) (m0 m1 : Nat) : Raise :=
  ⟨.calibrationImplausible, .channel (ceilingChannel z), .notApplicable, m0, m1⟩

/-- The end of a zone by the Sequencer itself (R176): the pop, the unfreeze, the raise of FAILED, the report, and what
follows (R170). The current zone goes first, so that the pop is not taken for a preemption (R180). -/
def endZone (fin : Finisher) (z : ZoneId) (result : ZoneResult) (eg df : Option Nat) (s : State) : State :=
  let r := s.sweep
  let s1 := unfreezeBay (bayOf z) (popClaim fin z (s.setSweep { r with current := none }))
  let s2 :=
    if result = .failed then
      raiseFault fin (zoneTarget z) (implausibleRaise z (r.m0.getD 0) (r.m1.getD 0)) s1
    else s1
  proceed fin z (reportZone z result eg df s2)

/-- A disturbance of the zone in progress: a restart from DARK, or the result DISTURBED (R177, R178). -/
def disturb (fin : Finisher) (z : ZoneId) (s : State) : State :=
  let r := s.sweep
  if r.restartUsed then endZone fin z .disturbed none none s
  else
    let s1 := s.setSweep { r with restartUsed := true, m0 := none, s0 := none, m1 := none, s1 := none,
                                  phase := .darkSettle, timer := startSeconds r.settle }
    if calibrateValue s1 z = some 1000 then changeValue fin z 0 s1 else s1

/-- The sky check: both sky values present, differing by more than a quarter of the first (R177). -/
def skyDisturbed : Option Nat → Option Nat → Bool
  | some s0, some s1 => s0 < 4 * ((s1 - s0) + (s0 - s1))
  | _, _ => false

/-- The daylight factor (R175). -/
def daylightFactor (m0 : Nat) : Option Nat → Option Nat
  | some s0 => if s0 = 0 then none else some (min 1000 (m0 * 1000 / s0))
  | none => none

/-- The result of a zone whose readings stand (R175). -/
def zoneResult (fin : Finisher) (z : ZoneId) (m0 m1 : Nat) (s0 : Option Nat) (s : State) : State :=
  if m0 + 20 ≤ m1 ∧ m1 ≤ m0 + 10000 then
    let cal : CalRecord := ⟨m1 - m0, daylightFactor m0 s0, s.seconds⟩
    endZone fin z .done (some cal.eg) cal.df (reselect fin z (s.setZone z { s.zone z with cal := some cal }))
  else endZone fin z .failed none none s

/-- A publication of the current zone's ceiling channel (R173, R174). -/
def seqCeiling (fin : Finisher) (z : ZoneId) (v : Nat) (s : State) : State :=
  let r := s.sweep
  if r.current = some z then
    match r.phase with
    | .darkRead =>
      changeValue fin z 1000
        (s.setSweep { r with m0 := some v, s0 := r.latestSky, phase := .lightSettle, timer := startSeconds r.settle })
    | .lightRead =>
      let s1 := s.setSweep { r with m1 := some v, s1 := r.latestSky }
      if skyDisturbed r.s0 r.latestSky then disturb fin z s1 else zoneResult fin z (r.m0.getD 0) v r.s0 s1
    | _ => s
  else s

/-- The zone being calibrated, when it lies in the bay. -/
def calibratingIn (s : State) (b : BayId) : Option ZoneId :=
  match s.sweep.current with
  | some z => if bayOf z = b then some z else none
  | none => none

/-- A publication of a sky channel at the Sequencer (R174). -/
def seqSky (b : BayId) (v : Nat) (s : State) : State :=
  if (calibratingIn s b).isSome && (s.bay b).cfg.skySensor then s.setSweep { s.sweep with latestSky := some v } else s

/-- A sky channel leaves VALID, or its bay no longer has a sky sensor (R174). -/
def seqSkyLost (b : BayId) (s : State) : State :=
  if (calibratingIn s b).isSome then s.setSweep { s.sweep with latestSky := none } else s

/-- A state event of the current zone's ceiling channel (R174, R177). -/
def seqCeilingState (fin : Finisher) (z : ZoneId) (valid : Bool) (s : State) : State :=
  if s.sweep.current = some z then
    let s1 := s.setSweep { s.sweep with ceilingValid := valid }
    if valid then s1 else disturb fin z s1
  else s

/-- A motion-start event of a bay (R177). -/
def seqMotionStart (fin : Finisher) (b : BayId) (s : State) : State :=
  match calibratingIn s b with
  | some z => disturb fin z s
  | none => s

/-- The beginning of a read phase (R173, R177). -/
def beginRead (fin : Finisher) (z : ZoneId) (phase : SweepPhase) (s : State) : State :=
  let s1 := s.setSweep { s.sweep with phase := phase, timer := none }
  if s.sweep.ceilingValid then s1 else disturb fin z s1

end Sys2Proof.Machine
end

