-- ==== Sys2Proof/Machine/Scanner.lean ====
section
/-! DEFINITION. The Sensor Scanner (spec/02): scans and polls, answers, channel states, publications and their readers, and
sensor faults. -/

namespace Sys2Proof.Machine

open Sys2Proof

/-! ### Scans (R24, R25) -/

/-- The lowest-numbered used channel at or above `n` (R25). -/
def nextUsed (s : State) (n : Nat) : Option ChannelId := (allIds 64).find? fun c => n ≤ c.val && (s.channel c).used

/-- Polls a channel, or ends the scan (R22, R25). -/
def setPoll (c : Option ChannelId) (s : State) : State :=
  s.setScanner { s.scanner with poll := c.map fun c => ⟨c, some Config.sensorAnswerMs, false⟩ }

/-- Starts a scan (R24, R25). -/
def startScan (s : State) : State := setPoll (nextUsed s 0) s

/-- Clears an owed start and starts its scan, when no scan is in progress (R24). -/
def startOwedScan (s : State) : State :=
  if s.scanner.poll.isNone && s.scanner.owed then startScan (s.setScanner { s.scanner with owed := false }) else s

/-- After the end of an exchange: the next poll of the scan, or its end and an owed start (R24, R25). -/
def nextPoll (last : ChannelId) (s : State) : State := startOwedScan (setPoll (nextUsed s (last.val + 1)) s)

/-! ### Readers (R32) -/

/-- A state event of a channel, delivered to its readers in the order of R32's table (log 13). -/
def stateEvent (fin : Finisher) (c : ChannelId) (valid : Bool) (s : State) : State :=
  let s1 := s.setView c ⟨valid, none⟩
  match viewChannel c with
  | .ceiling z =>
    let s2 := if (s1.zone z).cfg.ceilingSensor then reselect fin z s1 else s1
    seqCeilingState fin z valid s2
  | .sky b =>
    if (s1.bay b).cfg.skySensor then
      let s2 := (zonesOf b).foldl (fun s z => reselect fin z s) s1
      if valid then s2 else seqSkyLost b (s2.setBay b (s2.bay b).returnPending)
    else s1

/-- A span with one more published value (R35). -/
def Span.add (v : Nat) (x : Span) : Span := { x with lowest := min x.lowest v, highest := max x.highest v }

/-- The spans of a run after a publication of a reference (R35); they stand in ascending order of the reference. -/
def addSpan (ref : BayId) (v : Nat) : List Span → List Span
  | [] => [⟨ref, v, v⟩]
  | x :: xs =>
    if x.ref = ref then x.add v :: xs
    else if ref.val < x.ref.val then ⟨ref, v, v⟩ :: x :: xs
    else x :: addSpan ref v xs

/-- A run is in progress (R23, R35). -/
def Channel.inRun (r : Channel) : Bool := r.state == .valid || r.state == .fault .stuck

/-- The channel takes sky channel `b` as a reference (R35). -/
def takesReference (c : ChannelId) (b : BayId) : Bool :=
  match viewChannel c with
  | .ceiling z => bayOf z == b
  | .sky b' => b' != b

/-- A publication of a sky channel at the stuck detection of the channels that take it as a reference (R32, R35). -/
def referencePublication (b : BayId) (v : Nat) (s : State) : State :=
  (allIds 64).foldl (fun s c =>
    let r := s.channel c
    if takesReference c b && r.inRun then s.setChannel c { r with spans := addSpan b v r.spans } else s) s

/-- A publication of a channel, delivered to its readers in the order of R32's table (log 13). -/
def publish (fin : Finisher) (c : ChannelId) (v : Nat) (s : State) : State :=
  let s1 := s.setView c { s.view c with value := some v }
  match viewChannel c with
  | .ceiling z =>
    let s2 := if (s1.zone z).source = .direct then governingSample z s1 else s1
    seqCeiling fin z v s2
  | .sky b =>
    let s2 := (zonesOf b).foldl (fun s z => if (s.zone z).source = .estimate then governingSample z s else s) s1
    referencePublication b v (seqSky b v (glarePublication fin b v s2))

/-! ### Fault conditions (R33 to R37) -/

/-- The fault class of a sensor condition (R36). -/
def SensorFault.cls : SensorFault → FaultClass
  | .silent => .sensorSilent
  | .range => .sensorRange
  | .stuck => .sensorStuck

/-- Reports the end of a channel's condition (R36). -/
def endSensorFault (fin : Finisher) (c : ChannelId) (k : SensorFault) (s : State) : State :=
  endReport fin (channelTarget c) ⟨k.cls, .channel c⟩ s

/-- A channel whose record was `r` enters a FAULT state: the raise first, then the end of an old condition, then the state
event of a channel that was VALID (R32, R36). -/
def enterFault (fin : Finisher) (c : ChannelId) (k : SensorFault) (d1 d2 : Nat) (r : Channel) (s : State) : State :=
  let s1 := s.setChannel c { r with state := .fault k, history := [], filtered := none, recoveryCount := 0 }
  let s2 := raiseFault fin (channelTarget c) ⟨k.cls, .channel c, .notApplicable, d1, d2⟩ s1
  match r.state with
  | .fault old => endSensorFault fin c old s2
  | .valid => stateEvent fin c false s2
  | _ => s2

/-- The end of a condition: the channel enters STARTING (R37). -/
def endCondition (fin : Finisher) (c : ChannelId) (k : SensorFault) (r : Channel) (s : State) : State :=
  endSensorFault fin c k
    (s.setChannel c { r with state := .starting, history := [], recoveryCount := 0, missCount := 0 })

/-! ### Answers (R29 to R31) -/

/-- The scaled value of a raw count (R29). -/
def Channel.scaled (r : Channel) (raw : Nat) : Nat := min 65535 (raw * r.scale / 1024)

/-- An answer is out of range (R29). -/
def outOfRange (c : ChannelId) (raw scaled : Nat) : Bool :=
  raw == 0 || raw == 65535 || (16 ≤ c.val && scaled == 65535)

/-- The middle one of three values (R30). -/
def median3 (a b c : Nat) : Nat := max (min a b) (min (max a b) c)

/-- The median of a full history. -/
def medianOf : List Nat → Nat
  | [a, b, c] => median3 a b c
  | _ => 0

/-- The first-order filter: the division rounds toward zero (R31). -/
def filterStep (f m shift : Nat) : Nat := ((f : Int) + ((m : Int) - f).tdiv (2 ^ shift)).toNat

/-- A reference has moved: by more than one tenth of its highest value (R35). -/
def Span.moved (x : Span) : Bool := x.highest < 10 * (x.highest - x.lowest)

/-- A channel is stuck, judged after the run count has been updated (R35). -/
def Channel.stuck (c : ChannelId) (r : Channel) : Bool :=
  let limit := if 16 ≤ c.val then Config.ceilingRunLimit else Config.skyRunLimit
  limit ≤ r.runCount && r.spans.any Span.moved

/-- The run after an answer with raw count `raw` when the one before was `prev` (R35). -/
def Channel.run (r : Channel) (prev : Option Nat) (raw : Nat) : Channel :=
  if prev = some raw then { r with runCount := min Config.skyRunLimit (r.runCount + 1) }
  else { r with runCount := 1, spans := [] }

/-- An answered exchange (R29 to R31, R34, R35, R37). -/
def takeAnswer (fin : Finisher) (c : ChannelId) (raw : Nat) (s : State) : State :=
  let old := s.channel c
  let r : Channel := { old with missCount := 0, lastRaw := some raw }
  let v := r.scaled raw
  if outOfRange c raw v then
    match r.state with
    | .unused => s
    | .fault .range => s.setChannel c { r with recoveryCount := 0 }
    | _ => enterFault fin c .range raw v r s
  else
    match r.state with
    | .unused => s
    | .starting =>
      let history := r.history ++ [v]
      if history.length < 3 then s.setChannel c { r with history := history }
      else
        let f := medianOf history
        let r' : Channel := { r with state := .valid, history := history, filtered := some f, runCount := 1, spans := [] }
        publish fin c f (stateEvent fin c true (s.setChannel c r'))
    | .valid =>
      let r1 := r.run old.lastRaw raw
      if Channel.stuck c r1 then enterFault fin c .stuck raw r1.runCount r1 s
      else
        let history := r1.history.tail ++ [v]
        let f := filterStep (r1.filtered.getD 0) (medianOf history) r1.shift
        publish fin c f (s.setChannel c { r1 with history := history, filtered := some f })
    | .fault .stuck =>
      if old.lastRaw = some raw then
        s.setChannel c { r with runCount := min Config.skyRunLimit (r.runCount + 1) }
      else endCondition fin c .stuck r s
    | .fault k =>
      if r.recoveryCount + 1 < 3 then s.setChannel c { r with recoveryCount := r.recoveryCount + 1 }
      else endCondition fin c k r s

/-- An unanswered exchange (R33). -/
def takeUnanswered (fin : Finisher) (c : ChannelId) (s : State) : State :=
  let r := s.channel c
  match r.state with
  | .unused => s
  | .fault .silent => s.setChannel c { r with recoveryCount := 0, missCount := 0 }
  | _ =>
    if r.missCount + 1 < 2 then s.setChannel c { r with missCount := r.missCount + 1 }
    else enterFault fin c .silent (r.lastRaw.getD 0) 2 { r with missCount := 0 } s

/-- CONFIGURE SENSOR of one channel (R27). -/
def restartChannel (fin : Finisher) (c : ChannelId) (used : Bool) (scale shift : Nat) (s : State) : State :=
  let r := s.channel c
  let r' : Channel :=
    { used := used, scale := scale, shift := shift, state := if used then .starting else .unused, history := [],
      filtered := none, lastRaw := none, missCount := 0, recoveryCount := 0, runCount := 1, spans := [] }
  let s1 := s.setChannel c r'
  let s2 :=
    match s1.scanner.poll with
    | some p => if p.channel = c then s1.setScanner { s1.scanner with poll := some { p with discard := true } } else s1
    | none => s1
  match r.state with
  | .fault k => endSensorFault fin c k s2
  | .valid => stateEvent fin c false s2
  | _ => s2

end Sys2Proof.Machine
end

