-- ==== Sys2Proof/Machine/Lines.lean ====
section
/-! DEFINITION. The Luminaire Line Engines (spec/07): the start of update and audit transactions, the outcome of an attempt, and
the end of a transaction. -/

namespace Sys2Proof.Machine

open Sys2Proof

/-! ### Starting a transaction (R154, R159, R160) -/

/-- The level a luminaire is to receive: its zone's output scaled by its trim (R150). -/
def luminaireLevel (s : State) (x : Luminaire) : Option Nat := x.zone.map fun z => (s.zone z).output * x.trim / 1000

/-- A transaction begins with its first forward frame (R147, R148). -/
def Line.begin (r : Line) (t : Transaction) : Line :=
  { r with transaction := some t, answerTimer := some Config.luminaireAnswerMs }

/-- A quiet line: RUN with no transaction in flight. -/
def Line.quiet (r : Line) : Bool := r.state == .run && r.transaction.isNone

/-- The engine takes the head of its list and sends it a SET, when the line is RUN, no transaction is in flight and the list
is not empty (R154). -/
def startUpdate (l : LineId) (s : State) : State :=
  let r := s.line l
  if r.quiet then
    match r.list with
    | [] => s
    | a :: rest =>
      let x := r.lum a
      match luminaireLevel s x with
      | some v =>
        s.setLine l ((({ r with list := rest } : Line).setLum a { x with dirty := false, sent := some v }).begin
          ⟨a, .set, v, .update, 1⟩)
      | none => s.setLine l (({ r with list := rest } : Line).setLum a { x with dirty := false })
  else s

/-- The luminaire of the next audit: the lowest configured address above the cursor, else the lowest (R160). -/
def Line.auditChoice (r : Line) : Option Address :=
  let configured := (allIds 96).filter fun a => (r.lum a).configured
  let above := match r.cursor with
    | some c => configured.filter fun a => c.val < a.val
    | none => configured
  match above with
  | a :: _ => some a
  | [] => configured.head?

/-- The engine carries out an owed audit on a quiet line whose list is empty (R159, R160). -/
def startAudit (l : LineId) (s : State) : State :=
  let r := s.line l
  if r.quiet && r.list.isEmpty && r.auditOwed then
    let r1 := { r with auditOwed := false }
    match r.auditChoice with
    | some a => s.setLine l (r1.begin ⟨a, .query, 0, .audit, 1⟩)
    | none => s.setLine l r1
  else s

/-- The engine's tests at the end of an event: an update transaction, else an owed audit (R154, R159). -/
def testLine (l : LineId) (s : State) : State := startAudit l (startUpdate l s)

/-! ### Faults of luminaires (R157) -/

/-- A raise of an engine: against the zone that the record names, or without a target (R97, R157). -/
def raiseLuminaire (fin : Finisher) (l : LineId) (a : Address) (cls : FaultClass) (d1 d2 : Nat) (s : State) : State :=
  let x := s.lum l a
  let r : Raise := ⟨cls, .luminaire l a, if x.setConfirmed then .complete else .incomplete, d1, d2⟩
  match x.zone with
  | some z => raiseFault fin (zoneTarget z) r s
  | none => raiseUntargeted r s

/-- An end report of an engine; one for a luminaire with zone NONE is discarded (R97, R157). -/
def endLuminaire (fin : Finisher) (l : LineId) (a : Address) (zone : Option ZoneId) (cls : FaultClass) (s : State) :
    State :=
  match zone with
  | some z => endReport fin (zoneTarget z) ⟨cls, .luminaire l a⟩ s
  | none => s

/-! ### Outcomes (R155, R156, R158, R161) -/

/-- An answered level is a match (R155). -/
def levelsMatch (x y : Nat) : Bool := (x - y) + (y - x) ≤ Config.matchTolerance

/-- A luminaire answers: PRESENT with a confirmed level; the end of LUMINAIRE_MISSING when it was MISSING (R155, R157, R161). -/
def answerPresence (fin : Finisher) (l : LineId) (a : Address) (level : Nat) (s : State) : State :=
  let x := s.lum l a
  let s1 := s.setLum l a { x with presence := .present, confirmed := some level }
  if x.presence = .missing then endLuminaire fin l a x.zone .luminaireMissing s1 else s1

/-- A match clears an open mismatch with its end report (R155, R161). -/
def clearMismatch (fin : Finisher) (l : LineId) (a : Address) (s : State) : State :=
  let x := s.lum l a
  if x.mismatch then endLuminaire fin l a x.zone .luminaireMismatch (s.setLum l a { x with mismatch := false }) else s

/-- Marks a luminaire of a line dirty (R152). -/
def markLuminaire (l : LineId) (a : Address) (s : State) : State := s.setLine l ((s.line l).mark a)

/-- Opens a mismatch: the mark and the raise (R155, R157, R161). -/
def openMismatch (fin : Finisher) (l : LineId) (a : Address) (sent answered : Nat) (s : State) : State :=
  raiseLuminaire fin l a .luminaireMismatch sent answered (s.setLum l a { s.lum l a with mismatch := true })

/-- The outcome of an answered update (R155). -/
def updateAnswered (fin : Finisher) (l : LineId) (t : Transaction) (level : Nat) (s : State) : State :=
  let a := t.address
  let s1 := answerPresence fin l a level s
  if levelsMatch level t.value then clearMismatch fin l a (s1.setLum l a { s1.lum l a with setConfirmed := true })
  else
    let s2 := s1.setLum l a { s1.lum l a with setConfirmed := false }
    if (s2.lum l a).mismatch then s2
    else markLuminaire l a (openMismatch fin l a ((s2.lum l a).sent.getD t.value) level s2)

/-- The outcome of an answered audit (R161). -/
def auditAnswered (fin : Finisher) (l : LineId) (t : Transaction) (level : Nat) (s : State) : State :=
  let a := t.address
  let x := s.lum l a
  let s1 := answerPresence fin l a level s
  match x.sent with
  | none => s1
  | some sent =>
    if levelsMatch level sent then clearMismatch fin l a s1
    else
      match x.presence with
      | .missing => s1
      | .unknown => markLuminaire l a s1
      | .present =>
        let s2 := markLuminaire l a s1
        if x.mismatch then s2 else openMismatch fin l a sent level s2

/-- A luminaire whose zone is not NONE is dirty again, unlisted while its transaction is in flight or it is MISSING (R156). -/
def redirty (l : LineId) (a : Address) (s : State) : State :=
  let x := s.lum l a
  s.setLum l a { x with dirty := x.dirty || x.zone.isSome }

/-- The outcome of a second unanswered attempt (R156, R161). -/
def foundMissing (fin : Finisher) (l : LineId) (t : Transaction) (s : State) : State :=
  let a := t.address
  let s1 := if t.purpose = .update then s.setLum l a { s.lum l a with setConfirmed := false } else s
  let x := s1.lum l a
  if x.presence = .missing then (if t.purpose = .update then redirty l a s1 else s1)
  else
    redirty l a (raiseLuminaire fin l a .luminaireMissing t.value (match t.cmd with | .set => 1 | .query => 2)
      (s1.setLum l a { x with presence := .missing }))

/-! ### The end of a transaction -/

/-- The notice of a line's state (R165). -/
def lineNotice (l : LineId) (s : State) : State :=
  offerNotice (.lineState l (s.line l).state (s.line l).list.length) s

/-- The transaction ends: a luminaire still dirty is placed (R152), a line in HOLD_PENDING becomes HELD with its notice
(R163). -/
def endTransaction (l : LineId) (a : Address) (s : State) : State :=
  let r := (({ s.line l with transaction := none, answerTimer := none } : Line).place a)
  if r.state = .holdPending then lineNotice l (s.setLine l { r with state := .held }) else s.setLine l r

/-- The audit cursor takes the address of an audit that has ended (R160). -/
def moveCursor (l : LineId) (t : Transaction) (s : State) : State :=
  if t.purpose = .audit then s.setLine l { s.line l with cursor := some t.address } else s

/-- An attempt ends answered (R155, R161). -/
def attemptAnswered (fin : Finisher) (l : LineId) (t : Transaction) (level : Nat) (s : State) : State :=
  let s1 :=
    match t.purpose with
    | .update => updateAnswered fin l t level s
    | .audit => auditAnswered fin l t level s
  endTransaction l t.address (moveCursor l t s1)

/-- A first attempt that a hold leaves unanswered counts as not made (R163): the luminaire goes to the head of the list, or
the audit is owed again. -/
def deferAttempt (l : LineId) (t : Transaction) (s : State) : State :=
  let r := s.line l
  match t.purpose with
  | .update =>
    if (r.lum t.address).zone.isSome then
      s.setLine l { r.setLum t.address { r.lum t.address with dirty := true } with
        list := t.address :: r.list.filter fun a => a != t.address }
    else s
  | .audit => s.setLine l { r with auditOwed := true }

/-- An attempt ends unanswered (R156, R160, R163). -/
def attemptUnanswered (fin : Finisher) (l : LineId) (t : Transaction) (s : State) : State :=
  if t.attempt = 1 then
    if (s.line l).state = .holdPending then endTransaction l t.address (deferAttempt l t s)
    else s.setLine l ((s.line l).begin { t with attempt := 2 })
  else endTransaction l t.address (moveCursor l t (foundMissing fin l t s))

end Sys2Proof.Machine
end

