-- ==== Sys2Proof/Machine/DriveEvents.lean ====
section
/-! DEFINITION. The step event of a Shade Drive (R125 to R130, R134). -/

namespace Sys2Proof.Machine

open Sys2Proof

/-- The inputs HOME and MARK of a bay take the levels that an event shows (R118). -/
def setInputs (b : BayId) (home : Bool) (mark : Option (Fin 15)) (s : State) : State :=
  { s with homeIn := s.homeIn.set b.val home b.isLt, markIn := s.markIn.set b.val mark b.isLt }

/-- A step in a direction: one STEP pulse, and a known position changes by one stop (R118, R120). -/
def Drive.step (d : Drive) (dir : Direction) : Drive :=
  { d with
    dir := dir
    stepPulse := true
    position :=
      match dir with
      | .lowering => d.position.map (· + 1)
      | .raising => d.position.map (· - 1) }

/-- The direction from one stop toward another. -/
def toward (p target : Nat) : Direction := if p < target then .lowering else .raising

/-- The motion-start report of the first step of a movement in HOMING or MOVING: to the Zone Controller, then to the Sequencer
(R55, R125). -/
def reportMotionStart (fin : Finisher) (b : BayId) (s : State) : State :=
  let d := s.drive b
  if d.firstStep then s
  else
    let s1 := s.setDrive b { d with firstStep := true }
    seqMotionStart fin b ((zonesOf b).foldl (fun s z => zoneMotionStart z s) s1)

/-- The HOME checks after a step in MOVING or VERIFYING: the failure they give, with its two details, or none (R127). -/
def homeCheck (s : State) (b : BayId) : Option (FaultClass × Nat × Nat) :=
  let d := s.drive b
  let home := s.homeIn.get b
  match d.position with
  | none => none
  | some p =>
    if home && p != 0 then some (.shadeSwitchError, p, stopOf d.desired)
    else if p == 0 && !home then some (.shadeSeekError, 1, 0)
    else none

/-- Goes on after the HOME checks unless one of them fails the drive. -/
def afterHomeCheck (fin : Finisher) (b : BayId) (following : Bool) (next : State → State) (s : State) : State :=
  match homeCheck s b with
  | some (cls, d1, d2) => failDrive fin b following cls d1 d2 s
  | none => next s

/-- A step event in HOMING (R126, R141). A first step that is the failing one reports its motion-start before the raise (DESIGN
CHOICE, log 34). -/
def stepHoming (fin : Finisher) (b : BayId) (following : Bool) (s : State) : State :=
  let d := s.drive b
  let count := (if d.homingRestart then 0 else d.homingCount) + 1
  let s1 := reportMotionStart fin b
    (s.setDrive b { d.step .raising with homingCount := count, homingRestart := false })
  if s1.homeIn.get b then enterMoving fin b following (s1.setDrive b { s1.drive b with position := some 0 })
  else if count < Config.homingLimit then s1
  else failDrive fin b following .shadeHomeError 255 (stopOf d.desired) s1

/-- A step event in MOVING (R127). A position that SHADE HOME has made UNKNOWN sends the drive to HOMING (log 9). A first step
reports its motion-start before the HOME checks and the raise of one that fails (DESIGN CHOICE, log 34). -/
def stepMoving (fin : Finisher) (b : BayId) (following : Bool) (s : State) : State :=
  let d := s.drive b
  match d.position, d.desired with
  | none, _ => enterHoming fin b following s
  | some _, none => s
  | some p, some stop =>
    if p = stop then arrive fin b following s
    else
      afterHomeCheck fin b following
        (fun s => if (s.drive b).position = some stop then arrive fin b following s else s)
        (reportMotionStart fin b (s.setDrive b (d.step (toward p stop))))

/-- The direction of a step in phase SEEK: toward V until it has been reached, then on in the direction of the last step;
before any step toward lower stops; from stop 0 toward higher ones (R129, log 10). -/
def seekDirection (d : Drive) (p v stop : Nat) : Direction :=
  if d.searchCount < (stop - v) + (v - stop) then toward p v
  else if p = 0 then .lowering
  else if d.searchCount = 0 then .raising
  else d.dir

/-- A step event in VERIFYING (R127, R129, R130). After a step in phase SEEK the HOME checks go before the judging of MARK
(DESIGN CHOICE, log 40). -/
def stepVerifying (fin : Finisher) (b : BayId) (following : Bool) (s : State) : State :=
  let d := s.drive b
  if d.verifyAbandoned then
    stepMoving fin b following
      (s.setDrive b { d with state := .moving, phase := .none, verifyStop := none, searchCount := 0,
                             verifyAbandoned := false })
  else
    match d.position, d.desired, d.verifyStop with
    | some p, some stop, some v =>
      match d.phase with
      | .ret =>
        afterHomeCheck fin b following
          (fun s => if (s.drive b).position = some stop then endInHolding fin b following s else s)
          (s.setDrive b (d.step (toward p stop)))
      | _ =>
        afterHomeCheck fin b following (judgeMark fin b following)
          (s.setDrive b { d.step (seekDirection d p v stop) with searchCount := d.searchCount + 1 })
    | none, _, _ => enterHoming fin b following s
    | _, _, _ => s

/-- A pending stop is carried out, without a step (R20, R134). -/
def carryOutStop (fin : Finisher) (b : BayId) (following : Bool) (s : State) : State :=
  let d := s.drive b
  let stopped : Drive := { d.atRest with position := if d.state = .homing then none else d.position }
  match d.pendingStop with
  | .none => s
  | .halt => endInHolding fin b following (s.setDrive b stopped)
  | .release =>
    motionEnd fin b following (enterIdle b (releasePower b (s.setDrive b { stopped with state := .idle })))
  | .off => motionEnd fin b following (enterOff b (releasePower b (s.setDrive b { stopped with state := .off })))
  | .rehome => enterHoming fin b following (s.setDrive b { d with pendingStop := .none, mismatchCount := 0 })

/-- The step event is an arrival without a step: the drive acts in MOVING and stands at its desired stop (R127, R130). -/
def Drive.arrives (d : Drive) : Bool :=
  (d.state == .moving || (d.state == .verifying && d.verifyAbandoned)) && d.position.isSome && d.position == d.desired

/-- What a drive does at a step event: a pending stop is carried out, but an arrival at the same step event goes before it
(R125, R134, log 28). -/
def stepAction (fin : Finisher) (b : BayId) (s : State) : State :=
  let d := s.drive b
  if d.pendingStop != .none && !d.arrives then carryOutStop fin b d.following s
  else
    let s1 := s.setDrive b { d with pendingStop := .none }
    match d.state with
    | .homing => stepHoming fin b d.following s1
    | .moving => stepMoving fin b d.following s1
    | .verifying => stepVerifying fin b d.following s1
    | _ => s1

/-- A step event: it does not happen while the step timer is stopped; a drive still in motion afterwards starts its timer again
with the step interval as the bay record then gives it (R125). -/
def stepEvent (fin : Finisher) (b : BayId) (s : State) : State :=
  if (s.drive b).stepTimer.isNone then s
  else
    let s1 := stepAction fin b (s.setDrive b { s.drive b with stepPulse := false })
    if (s1.drive b).state.inMotion then
      s1.setDrive b { s1.drive b with stepTimer := some (stepInterval s1 b) }
    else s1

end Sys2Proof.Machine
end

