-- ==== Sys2Proof/Machine/FloorCommands.lean ====
section
/-! DEFINITION. What the Decoder's taking of CONFIGURE ZONE, CONFIGURE BAY, ENABLE, DISABLE, CONFIGURE SENSOR, CONFIGURE
LUMINAIRE, SET RESPONSE, SET LINK and WATCH does (spec/01, R26, R27, R151, R99, R194, R93). Each enters its REPLY first
(R191). -/

namespace Sys2Proof.Machine

open Sys2Proof

/-- A configure command takes an UNCONFIGURED target to DORMANT (R9, R12, R14). -/
def makeDormant (t : TargetId) (s : State) : State := s.setTarget t { s.target t with state := .dormant }

/-- CONFIGURE ZONE (R11, R12). -/
def takeConfigureZone (tag : Byte) (p : ZonePayload) (s : State) : State :=
  match operandZoneConfig p with
  | none => reply tag .badValue s
  | some (z, cfg) =>
    if cfg.maxLevel < cfg.minLevel then reply tag .badValue s
    else if (s.target (zoneTarget z)).isActive then reply tag .busy s
    else
      let s1 := reply tag .ok s
      makeDormant (zoneTarget z) (s1.setZone z { s1.zone z with cfg := cfg })

/-- The position rule of a CONFIGURE BAY that changes shade present (R14); while the drive's OFF stop is pending it waits for
OFF (R21). -/
def positionRule (b : BayId) (s : State) : State :=
  let d := s.drive b
  if d.state = .off then s.setDrive b { d with position := none } else s.setDrive b { d with positionRule := true }

/-- CONFIGURE BAY (R8, R13, R14). A changed sky sensor field selects the sources of the bay's ACTIVE zones again in the order
A, B, C, which orders their records (DESIGN CHOICE, log 31: R8, R42 and R96 give no order). A changed open or glare stop leaves
the base value of the shade target as the last hand-off wrote it, until ENABLE (DESIGN CHOICE, log 36: R7, R62 and R90). -/
def takeConfigureBay (tag : Byte) (p : BayPayload) (s : State) : State :=
  match operandBayConfig p with
  | none => reply tag .badValue s
  | some (b, cfg) =>
    if cfg.glareOn ≤ cfg.glareOff then reply tag .badValue s
    else if (s.target (shadeTarget b)).isActive then reply tag .busy s
    else
      let s1 := reply tag .ok s
      let old := (s1.bay b).cfg
      let s2 := makeDormant (shadeTarget b) (s1.setBay b { s1.bay b with cfg := cfg })
      let s3 := if cfg.shadePresent = old.shadePresent then s2 else positionRule b s2
      if cfg.skySensor = old.skySensor then s3
      else
        let s4 := (zonesOf b).foldl (fun s z => reselect finish z s) s3
        if cfg.skySensor then s4 else seqSkyLost b s4

/-- The zone record of a zone that enters service, before its source is selected (R16, steps 1 to 4). -/
def enabledZone (s : State) (z : ZoneId) : Zone :=
  let r := s.zone z
  { r with
    output := r.cfg.fallback
    rampTarget := r.cfg.fallback
    rampTimer := none
    rates := r.cfg.rates
    copy := (baseContext none).copy
    settling := (s.drive (bayOf z)).state.inMotion
    settleTimer := none
    readingTimer := if r.cfg.readingInterval = 0 then none else startSeconds r.cfg.readingInterval }

/-- The source selection of ENABLE with its MEASURE_LOST rules (R16 step 5, R44, R45). -/
def enableSource (z : ZoneId) (s : State) : State :=
  let r := s.zone z
  let new := selectSource s z
  let s1 := s.setZone z { r with source := new }
  if new = .none then raiseMeasureLost finish z r.source s1
  else if r.measureLost then
    endReport finish (zoneTarget z) ⟨.measureLost, .channel (ceilingChannel z)⟩
      (s1.setZone z { s1.zone z with measureLost := false })
  else s1

/-- ENABLE of a DORMANT zone (R16). The one TARGET CHANGE comes at the end, so the mark is laid aside until then (step 6). -/
def enableZone (z : ZoneId) (s : State) : State :=
  let t := zoneTarget z
  let watch := (s.target t).watch
  let s1 := s.setTarget t { s.target t with state := .active, watch := false }
  let s2 := enableSource z (markZone z (s1.setZone z (enabledZone s1 z)))
  noteChange t (s2.setTarget t { s2.target t with watch := watch })

/-- ENABLE of a DORMANT shade target (R17, R21). -/
def enableShade (b : BayId) (s : State) : State :=
  let t := shadeTarget b
  let r := s.bay b
  let s1 := s.setBay b { r with glare := .clear, glareTimer := none, halted := false }
  let s2 := s1.setTarget t { s1.target t with state := .active, baseValue := some r.cfg.openStop }
  let d := s2.drive b
  let s3 :=
    if d.state = .off then s2.setDrive b { d with state := .idle, desired := none }
    else s2.setDrive b { d with pendingStop := if d.pendingStop = .off then .none else d.pendingStop }
  noteChange t (driveHandoff finish b (some r.cfg.openStop) false s3)

/-- ENABLE (R15). -/
def takeEnable (tag : Byte) (target : Byte) (s : State) : State :=
  match operandTarget target with
  | none => reply tag .badValue s
  | some t =>
    match (s.target t).state with
    | .unconfigured => reply tag .notConfigured s
    | .active => reply tag .ok s
    | .dormant =>
      match viewTarget t with
      | .zone z => enableZone z (reply tag .ok s)
      | .shade b =>
        if (s.bay b).cfg.shadePresent then enableShade b (reply tag .ok s) else reply tag .notConfigured s

/-- The zone part of DISABLE (R19). -/
def disableZone (z : ZoneId) (s : State) : State :=
  let r := s.zone z
  s.setZone z { r with rampTarget := r.output, rampTimer := none, settling := false, settleTimer := none,
                       readingTimer := none, source := .none }

/-- The shade part of DISABLE (R20). -/
def disableShade (b : BayId) (s : State) : State :=
  let s1 := s.setBay b (s.bay b).returnPending
  let d := s1.drive b
  match d.state with
  | .homing | .moving | .verifying => s1.setDrive b { d with desired := none, pendingStop := .off }
  | .waitPower => enterOff b (leaveQueue b s1)
  | .energizing | .holding => releasePower b (enterOff b s1)
  | _ => enterOff b s1

/-- The Arbiter's and the Fault Unit's part of DISABLE, with its notices in order (R18). -/
def dismissTarget (t : TargetId) (s : State) : State :=
  let r := s.target t
  let gone := s.pendingList.filter fun e => e.target == t
  let s1 := gone.foldl (fun s e => entryNotice .discarded e s)
    (s.setPendingList (s.pendingList.filter fun e => e.target != t))
  let s2 := r.above.foldl (fun s c => contextNotice t .discarded c s)
    (s1.setTarget t { r with state := .dormant, above := [], window := false })
  let s3 :=
    match r.fault with
    | some f => if f.lockMark then clearRecord t .disable f s2 else s2
    | none => s2
  if r.above.isEmpty then s3 else noteChange t s3

/-- DISABLE (R18 to R20). -/
def takeDisable (tag : Byte) (target : Byte) (s : State) : State :=
  match operandTarget target with
  | none => reply tag .badValue s
  | some t =>
    match (s.target t).state with
    | .unconfigured => reply tag .notConfigured s
    | .dormant => reply tag .ok s
    | .active =>
      let s1 := dismissTarget t (reply tag .ok s)
      let s2 :=
        match viewTarget t with
        | .zone z => disableZone z s1
        | .shade b => disableShade b s1
      checkPreempted finish s2

/-- CONFIGURE SENSOR with a channel number (R26, R27). -/
def takeConfigureSensor (tag : Byte) (channel : Byte) (p : SensorPayload) (s : State) : State :=
  match operandChannel channel, operandFlag p.used, operandRange 1 4096 p.scale.toNat, operandRange 0 4 p.shift.toNat with
  | some c, some used, some scale, some shift => restartChannel finish c used scale shift (reply tag .ok s)
  | _, _, _, _ => reply tag .badValue s

/-- CONFIGURE SENSOR with channel ALL (R26, R27). -/
def takeConfigureSensorAll (tag : Byte) (p : SensorPayload) (s : State) : State :=
  match operandScanInterval p.interval with
  | some ms =>
    let s1 := reply tag .ok s
    s1.setScanner { s1.scanner with interval := ms, scanTimer := some ms }
  | none => reply tag .badValue s

/-- The end of a luminaire's open conditions against its old zone (R151 step 1). -/
def leaveZone (l : LineId) (a : Address) (s : State) : State :=
  let x := s.lum l a
  let s1 := if x.presence = .missing then endLuminaire finish l a x.zone .luminaireMissing s else s
  let s2 := if x.mismatch then endLuminaire finish l a x.zone .luminaireMismatch s1 else s1
  s2.setLum l a { s2.lum l a with presence := .unknown, mismatch := false }

/-- The zone is ACTIVE; NONE is not. -/
def zoneActive (s : State) : Option ZoneId → Bool
  | some z => (s.target (zoneTarget z)).isActive
  | none => false

/-- CONFIGURE LUMINAIRE (R151). -/
def takeConfigureLuminaire (tag : Byte) (p : LuminairePayload) (s : State) : State :=
  match operandLine p.line, operandAddress p.address, operandZoneOrNone p.zone, operandRange 100 1000 p.trim.toNat with
  | some l, some a, some zone, some trim =>
    let s1 := reply tag .ok s
    let x := s1.lum l a
    let s2 := if x.configured && x.zone != zone then leaveZone l a s1 else s1
    let s3 := s2.setLum l a { s2.lum l a with configured := true, zone := zone, trim := trim }
    if zoneActive s3 zone then markLuminaire l a s3
    else
      let r := s3.line l
      s3.setLine l { r.setLum a { r.lum a with dirty := false } with list := r.list.filter fun x => x != a }
  | _, _, _, _ => reply tag .badValue s

/-- SET RESPONSE (R99). -/
def takeSetResponse (tag : Byte) (p : ResponsePayload) (s : State) : State :=
  match operandClass p.cls, operandAction p.action, operandFlag p.alarm with
  | some c, some action, some alarm =>
    let s1 := reply tag .ok s
    { s1 with responses := s1.responses.set c.index.val ⟨action, alarm⟩ c.index.isLt }
  | _, _, _ => reply tag .badValue s

/-- SET LINK (R194). -/
def takeSetLink (tag : Byte) (threshold audit : Byte) (s : State) : State :=
  match operandRange 16 63 threshold.toNat, operandRange 1 60 audit.toNat with
  | some threshold, some audit =>
    let s1 := reply tag .ok s
    s1.setLink { s1.link with threshold := threshold, auditInterval := audit }
  | _, _ => reply tag .badValue s

/-- WATCH (R93). -/
def takeWatch (tag : Byte) (target setting : Byte) (s : State) : State :=
  match operandTarget target, operandFlag setting with
  | some t, some on =>
    let s1 := reply tag .ok s
    s1.setTarget t { s1.target t with watch := on }
  | _, _ => reply tag .badValue s

end Sys2Proof.Machine
end

