-- ==== Sys2Proof/Machine/ControlCommands.lean ====
section
/-! DEFINITION. What the Decoder's taking of REQUEST, RELEASE, CLEAR FAULT, CALIBRATE, the three STOP conditions, SHADE HOME, BUS
HOLD and BUS RELEASE does (spec/04 to spec/08). Each enters its REPLY first (R191). -/

namespace Sys2Proof.Machine

open Sys2Proof

/-- The Pending List entry of a request (R70, R78). -/
def requestEntry (s : State) (t : TargetId) (kind : Kind) (p : RequestPayload) : Entry :=
  { target := t, level := p.level.toNat, kind := kind, value := p.value.toNat, fade := p.fade.toNat,
    hold := operandHold p.hold, identity := p.identity.toNat, waitLimit := p.waitLimit.toNat,
    wait := if p.waitLimit = 0 then none else startSeconds p.waitLimit.toNat, arrival := s.nextArrival }

/-- A request pends (R78). -/
def pendRequest (e : Entry) (s : State) : State :=
  { s with pendingList := placeEntry e s.pendingList, nextArrival := s.nextArrival + 1 }

/-- The placement of a REQUEST that has passed its checks (R75). -/
def placeRequest (tag : Byte) (t : TargetId) (kind : Kind) (p : RequestPayload) (s : State) : State :=
  let r := s.target t
  let e := requestEntry s t kind p
  if e.level = r.active.level then finish t r.active (replaceActive t e.context (reply tag .accepted s))
  else if e.level < r.active.level ∧ r.above.length < Config.stackCap ∧ (r.window = false ∨ e.level = 0) then
    finish t r.active (pushClaim t e.context (reply tag .accepted s))
  else if s.pendingList.length < Config.pendingListCap then pendRequest e (reply tag .pending s)
  else reply tag .pendingFull s

/-- The status of a REQUEST that a check of R73 refuses, or the kind of one that passes. -/
def checkRequest (s : State) (t : TargetId) (p : RequestPayload) : Except Status Kind :=
  let r := s.target t
  if !r.isActive then .error .notActive
  else if !requestLevelAllowed p.level.toNat then .error .badLevel
  else
    match operandKind p.kind with
    | none => .error .badValue
    | some kind =>
      if !requestFieldsAllowed t kind p.value.toNat p.fade.toNat then .error .badValue
      else if p.identity = 0 || identityPresent s p.identity.toNat then .error .duplicate
      else if r.locked && p.level != 0 then .error .locked
      else .ok kind

/-- REQUEST (R73, R75). -/
def takeRequest (tag : Byte) (p : RequestPayload) (s : State) : State :=
  match operandTarget p.target with
  | none => reply tag .badValue s
  | some t =>
    match checkRequest s t p with
    | .error status => reply tag status s
    | .ok kind => placeRequest tag t kind p s

/-- The target on whose stack an identity stands (R82). -/
def holderOf (s : State) (identity : Nat) : Option TargetId :=
  (allIds 64).find? fun t => (s.target t).above.any fun c => c.identity == some identity

/-- A HOST context leaves its stack, with the offer that follows (R79, R82). -/
def removeIdentity (t : TargetId) (identity : Nat) (s : State) : State :=
  offer t (removeContexts t (fun c => c.identity != some identity) s)

/-- RELEASE (R82). -/
def takeRelease (tag : Byte) (identity : Half) (s : State) : State :=
  match holderOf s identity.toNat with
  | some t => finish t (s.active t) (removeIdentity t identity.toNat (reply tag .ok s))
  | none =>
    if s.pendingList.any fun e => e.identity == identity.toNat then dropEntry identity.toNat (reply tag .ok s)
    else reply tag .notFound s

/-- The homing attempt of CLEAR FAULT for a FAILED drive (R144). -/
def homingAttempt (t : TargetId) (s : State) : State :=
  match viewTarget t with
  | .shade b => if (s.drive b).state = .failed then leaveFailed b s else s
  | .zone _ => s

/-- CLEAR FAULT (R113); the hand-off is taken before the homing attempt (log 22). -/
def takeClearFault (tag : Byte) (target : Byte) (s : State) : State :=
  match operandTarget target with
  | none => reply tag .badValue s
  | some t =>
    match (s.target t).fault with
    | none => reply tag .noFault s
    | some f =>
      homingAttempt t (finish t (s.active t) (removalClaim t (clearRecord t .command f (reply tag .ok s))))

/-- CALIBRATE (R169, R170). -/
def takeCalibrate (tag : Byte) (first last settle : Byte) (s : State) : State :=
  match operandZone first, operandZone last, operandRange 2 60 settle.toNat with
  | some first, some last, some settle =>
    if last < first then reply tag .badValue s
    else if s.sweep.state != .idle then reply tag .busy s
    else
      let s1 := reply tag .ok s
      startZones finish (zonesBetween first.val last.val)
        (s1.setSweep { s1.sweep with first := first, last := last, settle := settle, counts := ⟨0, 0, 0, 0, 0⟩,
                                     state := .running })
  | _, _, _ => reply tag .badValue s

/-- SHADES_NOW at one bay: its halted mark, and its drive according to its state (R139). -/
def haltBay (b : BayId) (s : State) : State :=
  if (s.bay b).cfg.shadePresent then
    let s1 := s.setBay b { s.bay b with halted := true }
    let d := s1.drive b
    match d.state with
    | .homing | .moving | .verifying =>
      if d.pendingStop = .off then s1 else s1.setDrive b { d with pendingStop := .halt }
    | .waitPower => enterIdle b (leaveQueue b s1)
    | _ => s1
  else s

/-- STOP with condition SHADES_NOW (R139, R204). -/
def takeStopShades (tag : Byte) (s : State) : State :=
  (allIds 16).foldl (fun s b => haltBay b s) (enterReply tag .ok [0] s)

/-- STOP with condition SWEEP_NOW (R181). -/
def takeStopSweep (tag : Byte) (s : State) : State :=
  match s.sweep.state, s.sweep.current with
  | .idle, _ => enterReply tag .ok [1] s
  | _, none => endSweep .stopped (enterReply tag .ok [0] s)
  | _, some z =>
    let s1 := enterReply tag .ok [0] s
    let s2 := unfreezeBay (bayOf z) (popClaim finish z (s1.setSweep { s1.sweep with current := none }))
    endSweep .stopped (reportZone z .abandoned none none s2)

/-- STOP with condition SWEEP_AFTER_ZONE (R182). -/
def takeStopAfterZone (tag : Byte) (s : State) : State :=
  match s.sweep.state with
  | .idle => enterReply tag .ok [1] s
  | .running =>
    let s1 := enterReply tag .ok [0] s
    s1.setSweep { s1.sweep with state := .stopping }
  | .stopping => enterReply tag .ok [0] s

/-- What an accepted SHADE HOME does to the drive (R134, R141). -/
def homeDrive (b : BayId) (s : State) : State :=
  let s1 := clearHalted b (s.setDrive b { s.drive b with position := none, powerTimeout := false })
  let d := s1.drive b
  match d.state with
  | .idle | .failed => enterIdle b s1
  | .holding => startMovement finish b d.following s1
  | .homing =>
    s1.setDrive b { d with homingRestart := true, pendingStop := if d.pendingStop = .halt then .none else d.pendingStop }
  | .moving | .verifying => if d.pendingStop = .off then s1 else s1.setDrive b { d with pendingStop := .rehome }
  | _ => s1

/-- SHADE HOME (R141). -/
def takeShadeHome (tag : Byte) (bay : Byte) (s : State) : State :=
  match operandBay bay with
  | none => reply tag .badValue s
  | some b =>
    if !(s.target (shadeTarget b)).isActive then reply tag .notActive s
    else if (s.target (shadeTarget b)).locked then reply tag .locked s
    else homeDrive b (reply tag .ok s)

/-- A line takes a line state with its LINE STATE notice (R165). -/
def setLineState (l : LineId) (state : LineState) (s : State) : State :=
  lineNotice l (s.setLine l { s.line l with state := state })

/-- BUS HOLD (R162). -/
def takeBusHold (tag : Byte) (line : Byte) (s : State) : State :=
  match operandLine line with
  | none => reply tag .badValue s
  | some l =>
    let s1 := reply tag .ok s
    match (s.line l).state, (s.line l).transaction with
    | .run, none => setLineState l .held s1
    | .run, some _ => s1.setLine l { s1.line l with state := .holdPending }
    | _, _ => s1

/-- BUS RELEASE (R164); what the engine then starts stands at the end of the event (log 1). -/
def takeBusRelease (tag : Byte) (line : Byte) (s : State) : State :=
  match operandLine line with
  | none => reply tag .badValue s
  | some l =>
    let s1 := reply tag .ok s
    match (s.line l).state with
    | .run => s1
    | _ => setLineState l .run s1

end Sys2Proof.Machine
end

