-- ==== Sys2Proof/Machine/Queries.lean ====
section
/-! DEFINITION. The snapshots of QUERY (R39, R94, R117, R146, R167, R186, R208, R209) and what the Decoder's taking of each QUERY
does: the REPLY with its snapshot, or BAD_VALUE. -/

namespace Sys2Proof.Machine

open Sys2Proof

/-- One byte that shows an absent value as 0xFF. -/
def optByte (v : Option Nat) : Byte := be1 (v.getD 0xFF)

/-- The place of an item in a list; 0xFF when it is not listed. -/
def placeByte {α : Type} [DecidableEq α] (x : α) (l : List α) : Byte :=
  if l.contains x then be1 (l.idxOf x) else 0xFF

/-- A context entry of QUERY TARGET (R209). -/
def Context.bytes (c : Context) : List Byte :=
  originKindByte c.origin c.kind :: be1 (c.level + if c.locked then 16 else 0) :: be2 (c.value.getD 0) ++ be2 c.fade ++
    be2 (c.identity.getD 0) ++ be2 (secondsLeft c.hold)

/-- The snapshot of a target (R94, R208). -/
def targetSnapshot (s : State) (t : TargetId) : List Byte :=
  let r := s.target t
  be1 (r.state.code + (if r.locked then 4 else 0) + (if r.window then 8 else 0) + if r.watch then 16 else 0) ::
    be1 r.above.length :: be1 (s.pendingList.countP fun e => e.target == t) :: be2 (r.baseValue.getD 0xFFFF) ++
    r.above.reverse.flatMap Context.bytes

/-- The calibration marks and fields of QUERY ZONE (R208). -/
def calBytes : Option CalRecord → List Byte
  | none => marks [false, false] :: be2 0 ++ be2 0 ++ be4 0
  | some c => marks [true, c.df.isSome] :: be2 c.eg ++ be2 (c.df.getD 0) ++ be4 c.stamp.toNat

/-- The snapshot of a zone (R208). -/
def zoneSnapshot (s : State) (z : ZoneId) : List Byte :=
  let r := s.zone z
  let c := r.cfg
  be2 c.targetLux ++ be2 c.deadband ++ be2 c.minLevel ++ be2 c.maxLevel ++ be2 c.upRate ++ be2 c.downRate ++
    be2 c.fallback ++ be2 c.nominalGain ++ flagByte c.ceilingSensor :: be2 c.readingInterval ++ be2 r.output ++
    be2 r.rampTarget ++ be1 r.source.code :: flagByte r.settling :: be1 (secondsLeft r.settleTimer) ::
    be2 (secondsLeft r.readingTimer) ++ calBytes r.cal

/-- The snapshot of a bay (R146, R208). -/
def baySnapshot (s : State) (b : BayId) : List Byte :=
  let r := s.bay b
  let c := r.cfg
  let d := s.drive b
  flagByte c.skySensor :: be2 c.glareOn ++ be2 c.glareOff ++ be2 c.glareOnHold ++ be2 c.glareOffHold ++
    [flagByte c.shadePresent, be1 c.openStop, be1 c.glareStop, be1 c.fallbackStop, be1 c.stepRate, flagByte c.verify,
      be1 c.settleInterval, be1 r.glare.code] ++ be2 (secondsLeft r.glareTimer) ++
    [marks [r.frozen, r.halted, d.powerTimeout, d.following, d.grant], be1 d.state.code, optByte d.position,
      optByte d.desired, be1 d.pendingStop.code, placeByte b s.grantQueue, be1 d.phase.code, optByte d.verifyStop,
      be1 d.searchCount, be1 d.mismatchCount]

/-- The snapshot of a channel (R39, R208). Without a last raw its field is 0 (DESIGN CHOICE, log 35: R201 states 0 for a clear
presence bit, and a state, but not for this presence byte). -/
def channelSnapshot (s : State) (c : ChannelId) : List Byte :=
  let r := s.channel c
  flagByte r.used :: be2 r.scale ++ be1 r.shift :: be1 r.state.code :: be2 (r.filtered.getD 0) ++
    flagByte r.lastRaw.isSome :: be2 (r.lastRaw.getD 0) ++
    be1 r.history.length :: be1 r.missCount :: be1 r.recoveryCount :: be2 r.runCount

/-- A channel in any FAULT state. -/
def ChannelState.isFault : ChannelState → Bool
  | .fault _ => true
  | _ => false

/-- The number of channels whose state satisfies a test. -/
def countChannels (s : State) (p : ChannelState → Bool) : Nat := (allIds 64).countP fun c => p (s.channel c).state

/-- The scan summary (R39, R208). -/
def scanSnapshot (s : State) : List Byte :=
  be2 s.scanner.interval ++ [be1 (countChannels s (· == .unused)), be1 (countChannels s (· == .starting)),
    be1 (countChannels s (· == .valid)), be1 (countChannels s ChannelState.isFault)]

/-- The snapshot of a luminaire (R167, R208). -/
def luminaireSnapshot (s : State) (l : LineId) (a : Address) : List Byte :=
  let r := s.line l
  let x := r.lum a
  flagByte x.configured :: optByte (x.zone.map fun z => z.val) :: be2 x.trim ++ be1 x.presence.code ::
    be2 (x.sent.getD 0xFFFF) ++ be2 (x.confirmed.getD 0xFFFF) ++
    [marks [x.setConfirmed, x.dirty, x.mismatch, r.inFlight a], placeByte a r.list]

/-- The line summary (R167, R208). -/
def lineSnapshot (s : State) (l : LineId) : List Byte :=
  let r := s.line l
  be1 r.state.code :: be1 r.list.length ::
    (match r.transaction with
      | none => [0, 0, 0]
      | some t => [be1 t.cmd.code, be1 t.address.val, be1 t.attempt]) ++
    [flagByte r.auditOwed, optByte (r.cursor.map fun a => a.val)]

/-- The context at fault of QUERY FAULT (R208): the level is 0xFF when it is absent, and the origin and kind byte is then 0
(DESIGN CHOICE, log 35: R208 states its level only). -/
def contextAtFaultBytes : Option ContextAtFault → List Byte
  | none => [0, 0xFF]
  | some c => [originKindByte c.origin c.kind, be1 c.level]

/-- The snapshot of a fault record with a page of its open set (R117, R208, R209). -/
def faultSnapshot (s : State) (t : TargetId) (start : Nat) : List Byte :=
  match (s.target t).fault with
  | none => [0]
  | some f =>
    1 :: be1 f.firstClass.code :: be1 f.latestClass.code :: f.source.bytes ++ be4 f.stamp.toNat ++
      contextAtFaultBytes f.context ++ be1 f.completion.code :: be2 f.detail1 ++ be2 f.detail2 ++
      [marks [f.latched, f.lockMark], be1 f.superseded, be1 f.openSet.length, be1 start] ++
      ((f.openSet.drop start).take 8).flatMap fun c => be1 c.cls.code :: c.source.bytes

/-- The snapshot of a Pending List position (R94, R208). -/
def pendingSnapshot (s : State) (position : Nat) : List Byte :=
  be1 s.pendingList.length ::
    match s.pendingList[position]? with
    | none => [0]
    | some e =>
      1 :: be1 e.target.val :: be1 e.level :: be1 e.kind.code :: be2 e.value ++ be2 e.fade ++ be2 (e.hold.getD 0) ++
        be2 e.identity ++ [be1 (secondsLeft e.wait)]

/-- The snapshot of the sweep record (R186, R208). -/
def sweepSnapshot (s : State) : List Byte :=
  let r := s.sweep
  [be1 r.state.code, be1 r.first.val, be1 r.last.val, be1 r.settle, optByte (r.current.map fun z => z.val),
    be1 r.phase.code, be1 (secondsLeft r.timer),
    marks [r.restartUsed, r.ceilingValid, r.latestSky.isSome, r.m0.isSome, r.s0.isSome]] ++
    be2 (r.latestSky.getD 0) ++ be2 (r.m0.getD 0) ++ be2 (r.s0.getD 0) ++
    [be1 r.counts.done, be1 r.counts.failed, be1 r.counts.skipped, be1 r.counts.abandoned, be1 r.counts.disturbed]

/-- The REPLY of a QUERY: OK with the snapshot taken in the same event, or BAD_VALUE (R208). -/
def answerQuery (tag : Byte) (snapshot : Option (List Byte)) (s : State) : State :=
  match snapshot with
  | some bytes => enterReply tag .ok bytes s
  | none => reply tag .badValue s

/-- QUERY TARGET. -/
def takeQueryTarget (tag : Byte) (index : Half) (s : State) : State :=
  answerQuery tag ((operandId 64 index.toNat).map (targetSnapshot s)) s

/-- QUERY ZONE. -/
def takeQueryZone (tag : Byte) (index : Half) (s : State) : State :=
  answerQuery tag ((operandId 48 index.toNat).map (zoneSnapshot s)) s

/-- QUERY BAY. -/
def takeQueryBay (tag : Byte) (index : Half) (s : State) : State :=
  answerQuery tag ((operandId 16 index.toNat).map (baySnapshot s)) s

/-- QUERY SENSOR with a channel number. -/
def takeQuerySensor (tag : Byte) (index : Half) (s : State) : State :=
  answerQuery tag ((operandId 64 index.toNat).map (channelSnapshot s)) s

/-- QUERY SENSOR with channel ALL. -/
def takeQuerySensorAll (tag : Byte) (s : State) : State := answerQuery tag (some (scanSnapshot s)) s

/-- QUERY LUMINAIRE with an address. -/
def takeQueryLuminaire (tag : Byte) (line address : Byte) (s : State) : State :=
  match operandLine line, operandAddress address with
  | some l, some a => answerQuery tag (some (luminaireSnapshot s l a)) s
  | _, _ => answerQuery tag none s

/-- QUERY LUMINAIRE with the address ALL. -/
def takeQueryLuminaireAll (tag : Byte) (line : Byte) (s : State) : State :=
  answerQuery tag ((operandLine line).map (lineSnapshot s)) s

/-- QUERY FAULT: the target in the low byte, the start position in the high byte of the index. -/
def takeQueryFault (tag : Byte) (start target : Byte) (s : State) : State :=
  answerQuery tag ((operandTarget target).map fun t => faultSnapshot s t start.toNat) s

/-- QUERY PENDING: positions 0 to 31. -/
def takeQueryPending (tag : Byte) (index : Half) (s : State) : State :=
  answerQuery tag (if index.toNat < Config.pendingListCap then some (pendingSnapshot s index.toNat) else none) s

/-- QUERY SWEEP: the index is not read. -/
def takeQuerySweep (tag : Byte) (_index : Half) (s : State) : State := answerQuery tag (some (sweepSnapshot s)) s

end Sys2Proof.Machine
end

