-- ==== Sys2Proof/Machine/LinkPort.lean ====
section
/-! DEFINITION. The Link Port (spec/09) and the end of every event: reset (R198 to R200), the receiver (R188), the routing of a
good frame (R189), the Decoder (R190, R191, R203), the transmitter (R196), and the tests that run at the end of an event
(log 1). -/

namespace Sys2Proof.Machine

open Sys2Proof

/-! ### Reset -/

/-- Every block at its reset values, with the levels of the inputs and the waiting commands as they were (R198). -/
def resetBlocks (s : State) : State :=
  { State.reset with rstAsserted := s.rstAsserted, hrdy := s.hrdy, homeIn := s.homeIn, markIn := s.markIn,
                     pending := s.pending, link := .reset }

/-- STARTED enters the emptied Report Queue (R193, R200). -/
def enterStarted (cause : StartCause) (tag : Option Byte) (s : State) : State :=
  s.setLink { s.link with reports := s.link.reports ++ [.started cause tag] }

/-- RESET PART: no REPLY; the frame being sent and the frame being received go on (R199, R200). -/
def takeResetPart (tag : Byte) (s : State) : State :=
  let s1 := resetBlocks s
  enterStarted .command (some tag)
    (s1.setLink { s1.link with receiver := s.link.receiver, gapTimer := s.link.gapTimer, sending := s.link.sending })

/-- A taken frame whose kind code names no command (R203). -/
def takeUnknownKind (tag : Byte) (s : State) : State := reply tag .unknownKind s

/-! ### The Decoder -/

/-- A command that has passed the decoding of kind and length goes to its owning rule (R191, R203). -/
def runCommand (tag : Byte) (c : Command) (s : State) : State :=
  match c with
  | .configureZone p => takeConfigureZone tag p s
  | .configureBay p => takeConfigureBay tag p s
  | .configureSensor channel p => takeConfigureSensor tag channel p s
  | .configureSensorAll p => takeConfigureSensorAll tag p s
  | .configureLuminaire p => takeConfigureLuminaire tag p s
  | .setResponse p => takeSetResponse tag p s
  | .setLink threshold audit => takeSetLink tag threshold audit s
  | .enable target => takeEnable tag target s
  | .disable target => takeDisable tag target s
  | .request p => takeRequest tag p s
  | .release identity => takeRelease tag identity s
  | .clearFault target => takeClearFault tag target s
  | .watch target setting => takeWatch tag target setting s
  | .calibrate first last settle => takeCalibrate tag first last settle s
  | .stopShadesNow => takeStopShades tag s
  | .stopSweepNow => takeStopSweep tag s
  | .stopSweepAfterZone => takeStopAfterZone tag s
  | .shadeHome bay => takeShadeHome tag bay s
  | .busHold line => takeBusHold tag line s
  | .busRelease line => takeBusRelease tag line s
  | .queryTarget index => takeQueryTarget tag index s
  | .queryZone index => takeQueryZone tag index s
  | .queryBay index => takeQueryBay tag index s
  | .querySensor index => takeQuerySensor tag index s
  | .querySensorAll => takeQuerySensorAll tag s
  | .queryLuminaire line address => takeQueryLuminaire tag line address s
  | .queryLuminaireAll line => takeQueryLuminaireAll tag line s
  | .queryFault start target => takeQueryFault tag start target s
  | .queryPending index => takeQueryPending tag index s
  | .querySweep index => takeQuerySweep tag index s
  | .resetPart => takeResetPart tag s

/-- The status of a frame that a general decoding check refuses (R203). -/
def decodeStatus : DecodeError → Status
  | .unknownKind => .unknownKind
  | .badLength => .badLength
  | .badValue => .badValue

/-- The Decoder takes a frame whole (R191, R203). -/
def takeFrame (f : Frame) (s : State) : State :=
  match decodeFrame f with
  | .ok c => runCommand f.tag c s
  | .error .unknownKind => takeUnknownKind f.tag s
  | .error e => reply f.tag (decodeStatus e) s

/-- The Decoder's gate (R190). -/
def gateOpen (s : State) : Bool := s.link.reports.length < Config.reportCap

/-- The frame that the Decoder chooses, and the part with the frame gone from its store: the mailbox before the head of the
queue (R190). -/
def chooseFrame (s : State) : Option (Frame × State) :=
  match s.link.mailbox, s.link.inbound with
  | some f, _ => some (f, s.setLink { s.link with mailbox := none })
  | none, f :: rest => some (f, s.setLink { s.link with inbound := rest })
  | none, [] => none

/-! ### The transmitter (R196) -/

/-- The part with the transmitter's next frame started: from the Alarm Mailbox when it is occupied, else the head of the Report
Queue (R196, R197). -/
def startFrame (s : State) : Option State :=
  if s.hrdy && s.link.sending.isNone then
    match s.link.alarm, s.link.reports with
    | some r, _ => some (s.setLink { s.link with alarm := none, sending := some ⟨true, r⟩ })
    | none, r :: rest => some (s.setLink { s.link with reports := rest, sending := some ⟨false, r⟩ })
    | none, [] => none
  else none

/-! ### The end of an event (log 1) -/

/-- Both engines test whether a transaction starts (R154, R159). -/
def testLines (s : State) : State := testLine .l1 (testLine .l0 s)

/-- The transmitter and the Decoder act until neither can (R190, R196). Each round but one start of a frame takes a frame out of
the inbound stores, so the rounds that `settle` allows are enough. -/
def pump : Nat → State → State
  | 0, s => s
  | n + 1, s =>
    match startFrame s with
    | some s1 => pump n s1
    | none =>
      if gateOpen s then
        match chooseFrame s with
        | some (f, s1) => pump n (testLines (takeFrame f s1))
        | none => s
      else s

/-- The end of an event (log 1). -/
def settle (s : State) : State := pump (s.link.inbound.length + 3) (testLines s)

/-! ### Reception -/

/-- A good frame is routed by its urgent bit (R189). -/
def routeFrame (f : Frame) (s : State) : State :=
  let k := s.link
  if f.urgent then
    if k.mailbox.isNone then s.setLink { k with mailbox := some f }
    else s.setLink { k with flags := { k.flags with urgentLost := true } }
  else if k.inbound.length < Config.inboundCap then s.setLink { k with inbound := k.inbound ++ [f] }
  else s.setLink { k with flags := { k.flags with inboundLost := true } }

/-- The receiver returns to HUNT with its gap timer stopped (R188). -/
def hunt (s : State) : State := s.setLink { s.link with receiver := .hunt, gapTimer := none }

/-- The partial frame is discarded with FRAME_ERROR (R188). -/
def discardFrame (s : State) : State := setFrameError (hunt s)

/-- A frame is complete: its check decides whether it is good (R188, R189). -/
def completeFrame (body : List Byte) (check : Half) (s : State) : State :=
  if crc16 (checkedBytes body) = check then
    match frameOfBody body with
    | some f => routeFrame f (hunt s)
    | none => discardFrame s
  else discardFrame s

/-- The receiver goes on with its gap timer started again (R188). -/
def receiveOn (r : Receiver) (s : State) : State :=
  s.setLink { s.link with receiver := r, gapTimer := some Config.gapMs }

/-- A byte at the receiver (R188). -/
def receiveByte (b : Byte) (good : Bool) (s : State) : State :=
  match s.link.receiver with
  | .hunt => if good && b == 0xA5 then receiveOn .length s else s
  | .length =>
    if good && 2 ≤ b.toNat && b.toNat ≤ 50 then receiveOn (.body b.toNat []) s else discardFrame s
  | .body expected kept =>
    if good then
      if (kept ++ [b]).length < expected then receiveOn (.body expected (kept ++ [b])) s
      else receiveOn (.check (kept ++ [b]) none) s
    else discardFrame s
  | .check kept none => if good then receiveOn (.check kept (some b)) s else discardFrame s
  | .check kept (some hi) => if good then completeFrame kept (half hi b) s else discardFrame s

/-! ### The frame of a row -/

/-- An event of the part in operation; while RST_N is asserted the part is held and the event has no effect (R198). -/
def operate (body : State → State) (s : State) : Host.Outcome State Fault Refusal :=
  if s.rstAsserted then .next s else .next (settle (body s))

/-- The Decoder takes a frame that now arrives at once: the gate is open and no frame waits before it (R190). -/
def decoderReady (s : State) : Bool := gateOpen s && s.link.mailbox.isNone && s.link.inbound.isEmpty

/-- A host command: the good frame that carries it reaches the stores. The Decoder takes it in the same event when it is ready
for it, and otherwise the frame is routed as R189 states (log 2). -/
def hostCommand (f : Frame) (take : State → State) (s : State) : Host.Outcome State Fault Refusal :=
  operate (fun s => if decoderReady s then take s else routeFrame f s) s

end Sys2Proof.Machine
end

