-- ==== Sys2Proof/Machine/HostRows.lean ====
section
/-! DEFINITION. The meanings of the host command rows: the good frame that carries the command arrives, and the Decoder takes it
as soon as it may (R190, R191, log 2). -/

namespace Sys2Proof.Machine

open Sys2Proof

/-- CONFIGURE ZONE (R11, R12). -/
def execConfigureZone (h : FrameHead) (p : ZonePayload) (s : State) : Host.Outcome State Fault Refusal :=
  hostCommand (encodeCommand h (.configureZone p)) (takeConfigureZone h.tag p) s

/-- CONFIGURE BAY (R13, R14, R8). -/
def execConfigureBay (h : FrameHead) (p : BayPayload) (s : State) : Host.Outcome State Fault Refusal :=
  hostCommand (encodeCommand h (.configureBay p)) (takeConfigureBay h.tag p) s

/-- CONFIGURE SENSOR with a channel number (R26, R27). -/
def execConfigureSensor (h : FrameHead) (channel : Byte) (p : SensorPayload) (s : State) : Host.Outcome State Fault Refusal :=
  hostCommand (encodeCommand h (.configureSensor channel p)) (takeConfigureSensor h.tag channel p) s

/-- CONFIGURE SENSOR with channel ALL (R26, R27). -/
def execConfigureSensorAll (h : FrameHead) (p : SensorPayload) (s : State) : Host.Outcome State Fault Refusal :=
  hostCommand (encodeCommand h (.configureSensorAll p)) (takeConfigureSensorAll h.tag p) s

/-- CONFIGURE LUMINAIRE (R151). -/
def execConfigureLuminaire (h : FrameHead) (p : LuminairePayload) (s : State) : Host.Outcome State Fault Refusal :=
  hostCommand (encodeCommand h (.configureLuminaire p)) (takeConfigureLuminaire h.tag p) s

/-- SET RESPONSE (R99). -/
def execSetResponse (h : FrameHead) (p : ResponsePayload) (s : State) : Host.Outcome State Fault Refusal :=
  hostCommand (encodeCommand h (.setResponse p)) (takeSetResponse h.tag p) s

/-- SET LINK (R194). -/
def execSetLink (h : FrameHead) (threshold audit : Byte) (s : State) : Host.Outcome State Fault Refusal :=
  hostCommand (encodeCommand h (.setLink threshold audit)) (takeSetLink h.tag threshold audit) s

/-- ENABLE (R15 to R17). -/
def execEnable (h : FrameHead) (target : Byte) (s : State) : Host.Outcome State Fault Refusal :=
  hostCommand (encodeCommand h (.enable target)) (takeEnable h.tag target) s

/-- DISABLE (R18 to R20). -/
def execDisable (h : FrameHead) (target : Byte) (s : State) : Host.Outcome State Fault Refusal :=
  hostCommand (encodeCommand h (.disable target)) (takeDisable h.tag target) s

/-- REQUEST (R73 to R78). -/
def execRequest (h : FrameHead) (p : RequestPayload) (s : State) : Host.Outcome State Fault Refusal :=
  hostCommand (encodeCommand h (.request p)) (takeRequest h.tag p) s

/-- RELEASE (R82). -/
def execRelease (h : FrameHead) (identity : Half) (s : State) : Host.Outcome State Fault Refusal :=
  hostCommand (encodeCommand h (.release identity)) (takeRelease h.tag identity) s

/-- CLEAR FAULT (R113, R144). -/
def execClearFault (h : FrameHead) (target : Byte) (s : State) : Host.Outcome State Fault Refusal :=
  hostCommand (encodeCommand h (.clearFault target)) (takeClearFault h.tag target) s

/-- WATCH (R93). -/
def execWatch (h : FrameHead) (target setting : Byte) (s : State) : Host.Outcome State Fault Refusal :=
  hostCommand (encodeCommand h (.watch target setting)) (takeWatch h.tag target setting) s

/-- CALIBRATE (R169 to R172). -/
def execCalibrate (h : FrameHead) (first last settle : Byte) (s : State) : Host.Outcome State Fault Refusal :=
  hostCommand (encodeCommand h (.calibrate first last settle)) (takeCalibrate h.tag first last settle) s

/-- STOP with condition SHADES_NOW (R139). -/
def execStopShadesNow (h : FrameHead) (s : State) : Host.Outcome State Fault Refusal :=
  hostCommand (encodeCommand h .stopShadesNow) (takeStopShades h.tag) s

/-- STOP with condition SWEEP_NOW (R181). -/
def execStopSweepNow (h : FrameHead) (s : State) : Host.Outcome State Fault Refusal :=
  hostCommand (encodeCommand h .stopSweepNow) (takeStopSweep h.tag) s

/-- STOP with condition SWEEP_AFTER_ZONE (R182). -/
def execStopSweepAfterZone (h : FrameHead) (s : State) : Host.Outcome State Fault Refusal :=
  hostCommand (encodeCommand h .stopSweepAfterZone) (takeStopAfterZone h.tag) s

/-- SHADE HOME (R141). -/
def execShadeHome (h : FrameHead) (bay : Byte) (s : State) : Host.Outcome State Fault Refusal :=
  hostCommand (encodeCommand h (.shadeHome bay)) (takeShadeHome h.tag bay) s

/-- BUS HOLD (R162). -/
def execBusHold (h : FrameHead) (line : Byte) (s : State) : Host.Outcome State Fault Refusal :=
  hostCommand (encodeCommand h (.busHold line)) (takeBusHold h.tag line) s

/-- BUS RELEASE (R164). -/
def execBusRelease (h : FrameHead) (line : Byte) (s : State) : Host.Outcome State Fault Refusal :=
  hostCommand (encodeCommand h (.busRelease line)) (takeBusRelease h.tag line) s

/-- QUERY TARGET (R94, R208). -/
def execQueryTarget (h : FrameHead) (index : Half) (s : State) : Host.Outcome State Fault Refusal :=
  hostCommand (encodeCommand h (.queryTarget index)) (takeQueryTarget h.tag index) s

/-- QUERY ZONE (R208). -/
def execQueryZone (h : FrameHead) (index : Half) (s : State) : Host.Outcome State Fault Refusal :=
  hostCommand (encodeCommand h (.queryZone index)) (takeQueryZone h.tag index) s

/-- QUERY BAY (R146, R208). -/
def execQueryBay (h : FrameHead) (index : Half) (s : State) : Host.Outcome State Fault Refusal :=
  hostCommand (encodeCommand h (.queryBay index)) (takeQueryBay h.tag index) s

/-- QUERY SENSOR with a channel number (R39, R208). -/
def execQuerySensor (h : FrameHead) (index : Half) (s : State) : Host.Outcome State Fault Refusal :=
  hostCommand (encodeCommand h (.querySensor index)) (takeQuerySensor h.tag index) s

/-- QUERY SENSOR with channel ALL (R39, R208). -/
def execQuerySensorAll (h : FrameHead) (s : State) : Host.Outcome State Fault Refusal :=
  hostCommand (encodeCommand h .querySensorAll) (takeQuerySensorAll h.tag) s

/-- QUERY LUMINAIRE with an address (R167, R208). -/
def execQueryLuminaire (h : FrameHead) (line address : Byte) (s : State) : Host.Outcome State Fault Refusal :=
  hostCommand (encodeCommand h (.queryLuminaire line address)) (takeQueryLuminaire h.tag line address) s

/-- QUERY LUMINAIRE with the address ALL (R167, R208). -/
def execQueryLuminaireAll (h : FrameHead) (line : Byte) (s : State) : Host.Outcome State Fault Refusal :=
  hostCommand (encodeCommand h (.queryLuminaireAll line)) (takeQueryLuminaireAll h.tag line) s

/-- QUERY FAULT (R117, R208, R209). -/
def execQueryFault (h : FrameHead) (start target : Byte) (s : State) : Host.Outcome State Fault Refusal :=
  hostCommand (encodeCommand h (.queryFault start target)) (takeQueryFault h.tag start target) s

/-- QUERY PENDING (R94, R208). -/
def execQueryPending (h : FrameHead) (index : Half) (s : State) : Host.Outcome State Fault Refusal :=
  hostCommand (encodeCommand h (.queryPending index)) (takeQueryPending h.tag index) s

/-- QUERY SWEEP (R186, R208). -/
def execQuerySweep (h : FrameHead) (index : Half) (s : State) : Host.Outcome State Fault Refusal :=
  hostCommand (encodeCommand h (.querySweep index)) (takeQuerySweep h.tag index) s

/-- RESET PART (R199, R200). -/
def execResetPart (h : FrameHead) (s : State) : Host.Outcome State Fault Refusal :=
  hostCommand (encodeCommand h .resetPart) (takeResetPart h.tag) s

/-- A frame whose kind code names no command (R202, R203). -/
def execUnknownKind (h : FrameHead) (code : BitVec 7) (payload : List Byte) (s : State) :
    Host.Outcome State Fault Refusal :=
  hostCommand ⟨h.urgent, code, h.tag, payload⟩ (takeUnknownKind h.tag) s

end Sys2Proof.Machine
end

