-- ==== Sys2Proof/Machine/LinkRows.lean ====
section
/-! DEFINITION. The meanings of the rows of the pins, the serial link and the seconds counter (spec/09). -/

namespace Sys2Proof.Machine

open Sys2Proof

/-- RST_N is asserted: the part is held at its reset values, with every store empty (R198). -/
def execRstNAsserted (s : State) : Host.Outcome State Fault Refusal :=
  .next (resetBlocks { s with rstAsserted := true })

/-- RST_N is deasserted: operation begins and STARTED with cause PIN enters (R198, R200). -/
def execRstNDeasserted (s : State) : Host.Outcome State Fault Refusal :=
  if s.rstAsserted then .next (settle (enterStarted .pin none (resetBlocks { s with rstAsserted := false }))) else .next s

/-- A frame attempt ends at the receiver: a frame of good form whose check matches is routed, any other is discarded with
FRAME_ERROR (R187, R188, R189). -/
def execFrameReceived (body : List Byte) (check : Half) (s : State) : Host.Outcome State Fault Refusal :=
  operate (fun s => if 2 ≤ body.length ∧ body.length ≤ 50 then completeFrame body check s else discardFrame s) s

/-- The gap timer expires (R188). -/
def execGapTimerExpiry (s : State) : Host.Outcome State Fault Refusal :=
  operate (fun s => if s.link.gapTimer.isSome then discardFrame s else s) s

/-- HRDY is asserted (R196). -/
def execHrdyAsserted (s : State) : Host.Outcome State Fault Refusal := operate (fun s => s) { s with hrdy := true }

/-- HRDY is deasserted (R196). -/
def execHrdyDeasserted (s : State) : Host.Outcome State Fault Refusal := operate (fun s => s) { s with hrdy := false }

/-- The idle transmitter starts a frame when it may; the end of every event makes the same test (R196, log 1). -/
def execTransmitStart (s : State) : Host.Outcome State Fault Refusal :=
  operate (fun s => match startFrame s with
    | some s1 => s1
    | none => s) s

/-- The transmitter finishes a frame and becomes idle (R196). -/
def execFrameSent (s : State) : Host.Outcome State Fault Refusal :=
  operate (fun s => s.setLink { s.link with sending := none }) s

/-- The seconds counter increases by 1, and after 4294967295 returns to 0 (R200). -/
def execSecondsCounterTick (s : State) : Host.Outcome State Fault Refusal :=
  operate (fun s => { s with seconds := s.seconds + 1 }) s

/-- The receiver takes a byte (R188). -/
def execByteTaken (b : Byte) (good : Bool) (s : State) : Host.Outcome State Fault Refusal :=
  operate (receiveByte b good) s

end Sys2Proof.Machine
end

