-- ==== Sys2Proof/Machine/FloorRows.lean ====
section
/-! DEFINITION. The meanings of the rows of the sensor line, the Zone Controller, the Request Arbiter, the luminaire lines and the
Calibration Sequencer (spec/02, spec/03, spec/04, spec/07, spec/08). An expiry whose timer is not running has no effect. -/

namespace Sys2Proof.Machine

open Sys2Proof

/-! ### Sensor line -/

/-- The scan timer expires and starts again; a scan starts or is owed (R24). -/
def execScanTimerExpiry (s : State) : Host.Outcome State Fault Refusal :=
  operate (fun s =>
    let s1 := s.setScanner { s.scanner with scanTimer := some s.scanner.interval }
    if s1.scanner.poll.isNone then startScan s1 else s1.setScanner { s1.scanner with owed := true }) s

/-- An owed scan starts when no scan is in progress; the end of a scan makes the same test (R24). -/
def execOwedScanStart (s : State) : Host.Outcome State Fault Refusal := operate startOwedScan s

/-- An exchange ends, answered with a raw count or unanswered; the outcome of a channel reconfigured meanwhile is discarded
(R22, R27). -/
def endExchange (raw : Option Nat) (s : State) : State :=
  match s.scanner.poll with
  | none => s
  | some p =>
    let s1 :=
      if p.discard then s
      else
        match raw with
        | some n => takeAnswer finish p.channel n s
        | none => takeUnanswered finish p.channel s
    nextPoll p.channel s1

/-- The raw count of an answer that the exchange takes: a good check and the channel number of the poll (R22). -/
def acceptedRaw (s : State) (channel : Byte) (raw : Half) (checkGood : Bool) : Option Nat :=
  match s.scanner.poll with
  | some p => if checkGood && channel.toNat == p.channel.val then some raw.toNat else none
  | none => none

/-- An answer on the sensor line; one that fails its check or carries another channel number ends the exchange unanswered (R22,
R29, R33). One that arrives after its exchange has ended is discarded, whatever exchange is then in flight (R22); that the row
says so of an answer is DESIGN CHOICE (log 32). -/
def execSensorAnswer (channel : Byte) (raw : Half) (arrival : Arrival) (s : State) : Host.Outcome State Fault Refusal :=
  operate (fun s =>
    match arrival with
    | .late => s
    | .good => endExchange (acceptedRaw s channel raw true) s
    | .failed => endExchange (acceptedRaw s channel raw false) s) s

/-- The answer timer expires (R22, R33). -/
def execSensorAnswerTimeout (s : State) : Host.Outcome State Fault Refusal := operate (endExchange none) s

/-! ### Zone Controller -/

/-- A ramp tick, with the arrival report of R53 when it moved the output (R52, R54). -/
def takeRampTick (z : ZoneId) (s : State) : State :=
  let r := s.zone z
  if r.rampTimer.isNone then s
  else
    let r1 := r.rampTick
    let s1 := putZone z r1 s
    if r1.output = r.output then s1 else reportFallback finish z s1

/-- The ramp tick timer of a zone expires (R52). -/
def execRampTick (z : ZoneId) (s : State) : Host.Outcome State Fault Refusal := operate (takeRampTick z) s

/-- The settle timer of a zone expires: its settling flag is cleared (R56). -/
def execSettleTimerExpiry (z : ZoneId) (s : State) : Host.Outcome State Fault Refusal :=
  operate (fun s =>
    if (s.zone z).settleTimer.isSome then s.setZone z { s.zone z with settling := false, settleTimer := none } else s) s

/-- The reading timer of a zone expires and starts again, with a READING (R63). -/
def execReadingTimerExpiry (z : ZoneId) (s : State) : Host.Outcome State Fault Refusal :=
  operate (fun s =>
    if (s.zone z).readingTimer.isSome then
      offerReading (readingOf s z)
        (s.setZone z { s.zone z with readingTimer := startSeconds (s.zone z).cfg.readingInterval })
    else s) s

/-- The glare hold timer of a bay expires: the pending state completes (R60). -/
def execGlareHoldExpiry (b : BayId) (s : State) : Host.Outcome State Fault Refusal :=
  operate (fun s =>
    if (s.bay b).glareTimer.isSome then putGlare finish b (s.bay b).glare.completed none s else s) s

/-! ### Request Arbiter -/

/-- The context of an identity, when its hold timer is running. -/
def runningHold (s : State) (t : TargetId) (identity : Nat) : Option Context :=
  (s.target t).above.find? fun c => c.identity == some identity && c.hold.isSome

/-- A hold expiry: the context is removed with ENDED, and an offer follows (R69, R83). -/
def takeHoldExpiry (identity : Nat) (s : State) : State :=
  match holderOf s identity with
  | none => s
  | some t =>
    match runningHold s t identity with
    | none => s
    | some c =>
      finish t (s.active t)
        (offer t (contextNotice t .ended c (removeContexts t (fun c => c.identity != some identity) s)))

/-- The hold timer of the context that carries an identity expires (R69). -/
def execHoldExpiry (identity : Half) (s : State) : Host.Outcome State Fault Refusal :=
  operate (takeHoldExpiry identity.toNat) s

/-- A wait expiry: the entry is removed with EXPIRED, and no offer follows (R71, R84). -/
def takeWaitExpiry (identity : Nat) (s : State) : State :=
  match s.pendingList.find? fun e => e.identity == identity && e.wait.isSome with
  | some e => entryNotice .expired e (dropEntry identity s)
  | none => s

/-- The wait timer of the entry that carries an identity expires (R71). -/
def execWaitExpiry (identity : Half) (s : State) : Host.Outcome State Fault Refusal :=
  operate (takeWaitExpiry identity.toNat) s

/-! ### Luminaire lines -/

/-- An answer on a luminaire line: one whose check fails or whose level lies outside 0 to 1000 ends the attempt unanswered
(R147, R155, R161). One that arrives after its attempt has ended is discarded, whatever attempt is then in flight (R147); that
the row says so of an answer is DESIGN CHOICE (log 33). -/
def execLuminaireAnswer (l : LineId) (level : Half) (arrival : Arrival) (s : State) : Host.Outcome State Fault Refusal :=
  operate (fun s =>
    match arrival, (s.line l).transaction with
    | .good, some t =>
      if level.toNat ≤ 1000 then attemptAnswered finish l t level.toNat s else attemptUnanswered finish l t s
    | .failed, some t => attemptUnanswered finish l t s
    | _, _ => s) s

/-- The answer timer of a luminaire line expires (R147, R156). -/
def execLuminaireAnswerTimeout (l : LineId) (s : State) : Host.Outcome State Fault Refusal :=
  operate (fun s =>
    match (s.line l).transaction with
    | none => s
    | some t => attemptUnanswered finish l t s) s

/-- The audit timer of a line expires and starts again with the audit interval; an audit is owed (R159). -/
def execAuditTimerExpiry (l : LineId) (s : State) : Host.Outcome State Fault Refusal :=
  operate (fun s => s.setLine l { s.line l with auditTimer := startSeconds s.link.auditInterval, auditOwed := true }) s

/-- A quiet line takes the head of its pending list; the end of every event makes the same test (R154, log 1). -/
def execUpdateTransactionStart (l : LineId) (s : State) : Host.Outcome State Fault Refusal := operate (startUpdate l) s

/-- A quiet line carries out its owed audit; the end of every event makes the same test (R159, R160, log 1). -/
def execAudit (l : LineId) (s : State) : Host.Outcome State Fault Refusal := operate (startAudit l) s

/-! ### Calibration Sequencer -/

/-- The phase timer expires: DARK_SETTLE or LIGHT_SETTLE passes to its read phase (R173). -/
def takePhaseExpiry (s : State) : State :=
  match s.sweep.current, s.sweep.timer, s.sweep.phase with
  | some z, some _, .darkSettle => beginRead finish z .darkRead s
  | some z, some _, .lightSettle => beginRead finish z .lightRead s
  | _, _, _ => s

/-- The phase timer expires (R173). -/
def execPhaseTimerExpiry (s : State) : Host.Outcome State Fault Refusal := operate takePhaseExpiry s

end Sys2Proof.Machine
end

