-- ==== Sys2Proof/Machine/DriveRows.lean ====
section
/-! DEFINITION. The meanings of the rows of the shade drives (spec/06). The inputs HOME and MARK take the levels that a row shows
whatever the drive does; an expiry whose timer is not running has no other effect. -/

namespace Sys2Proof.Machine

open Sys2Proof

/-- A step event of a drive (R125). -/
def execStepEvent (b : BayId) (home : Bool) (mark : Option (Fin 15)) (s : State) : Host.Outcome State Fault Refusal :=
  operate (stepEvent finish b) (setInputs b home mark s)

/-- The end of ENERGIZING: HOLDING under a halted mark or at the desired stop, else HOMING or MOVING (R124). -/
def endEnergising (b : BayId) (s : State) : State :=
  let d := s.drive b
  if d.energiseTimer.isNone then s
  else if (s.bay b).halted || (d.position.isSome && d.position == d.desired) then enterHolding b s
  else startMovement finish b d.following s

/-- The energise timer of a drive expires (R124). -/
def execEnergiseTimerExpiry (b : BayId) (home : Bool) (mark : Option (Fin 15)) (s : State) :
    Host.Outcome State Fault Refusal :=
  operate (endEnergising b) (setInputs b home mark s)

/-- The hold timer of a drive in HOLDING expires: it releases its grant and enters IDLE (R131). -/
def endHolding (b : BayId) (s : State) : State :=
  if (s.drive b).holdTimer.isNone then s
  else enterIdle b (releasePower b (s.setDrive b { s.drive b with state := .idle, holdTimer := none }))

/-- The hold timer of a drive expires (R131). -/
def execDriveHoldTimerExpiry (b : BayId) (s : State) : Host.Outcome State Fault Refusal := operate (endHolding b) s

/-- A power timeout: the drive leaves the grant queue for IDLE with its power-timeout mark set, and raises
SHADE_POWER_TIMEOUT with its desired stop and the drives left in the queue (R132, R138). The mark is set before the raise, so
that a stop which the raise itself hands to the drive clears it (DESIGN CHOICE, log 38). -/
def powerTimeout (b : BayId) (s : State) : State :=
  if (s.drive b).waitTimer.isNone then s
  else
    let s1 := leaveQueue b s
    let d := s1.drive b
    let s2 := s1.setDrive b { d with state := .idle, powerTimeout := true }
    raiseFault finish (shadeTarget b)
      (driveRaise b .shadePowerTimeout (if d.position.isSome then .complete else .incomplete) (stopOf d.desired)
        s2.grantQueue.length) s2

/-- The power wait timer of a drive expires (R138). -/
def execPowerWaitTimeout (b : BayId) (s : State) : Host.Outcome State Fault Refusal := operate (powerTimeout b) s

end Sys2Proof.Machine
end

