-- ==== Sys2Proof/Machine/Tick.lean ====
section
/-! DEFINITION. The passing of one millisecond: every running timer counts down; none expires by itself (log 3, log 4). -/

namespace Sys2Proof.Machine

open Sys2Proof

/-- One millisecond at the Link Port (R188). -/
def LinkPort.tick (r : LinkPort) : LinkPort := { r with gapTimer := tickTimer r.gapTimer }

/-- One millisecond at the Scanner (R22, R24). -/
def Scanner.tick (r : Scanner) : Scanner :=
  { r with scanTimer := tickTimer r.scanTimer,
           poll := r.poll.map fun p => { p with answerTimer := tickTimer p.answerTimer } }

/-- One millisecond at a zone (R51, R56, R63). -/
def Zone.tick (r : Zone) : Zone :=
  { r with settleTimer := tickTimer r.settleTimer, readingTimer := tickTimer r.readingTimer,
           rampTimer := tickTimer r.rampTimer }

/-- One millisecond at a bay (R59). -/
def Bay.tick (r : Bay) : Bay := { r with glareTimer := tickTimer r.glareTimer }

/-- One millisecond on a stack: every hold runs, active or buried (R69). -/
def Target.tick (r : Target) : Target := { r with above := r.above.map fun c => { c with hold := tickTimer c.hold } }

/-- One millisecond at a drive (R124, R125, R131, R136). -/
def Drive.tick (r : Drive) : Drive :=
  { r with stepTimer := tickTimer r.stepTimer, energiseTimer := tickTimer r.energiseTimer,
           holdTimer := tickTimer r.holdTimer, waitTimer := tickTimer r.waitTimer }

/-- One millisecond at a line (R147, R159). -/
def Line.tick (r : Line) : Line :=
  { r with answerTimer := tickTimer r.answerTimer, auditTimer := tickTimer r.auditTimer }

/-- One millisecond of the part in operation. -/
def tickAll (s : State) : State :=
  { s with
    link := s.link.tick
    scanner := s.scanner.tick
    zones := s.zones.map Zone.tick
    bays := s.bays.map Bay.tick
    targets := s.targets.map Target.tick
    pendingList := s.pendingList.map fun e => { e with wait := tickTimer e.wait }
    drives := s.drives.map Drive.tick
    lineL0 := s.lineL0.tick
    lineL1 := s.lineL1.tick
    sweep := { s.sweep with timer := tickTimer s.sweep.timer } }

/-- What the part does while no command waits: one millisecond passes, unless RST_N holds the part at its reset values
(R198). -/
def idle (s : State) : State := if s.rstAsserted then s else tickAll s

end Sys2Proof.Machine
end

