-- ==== Sys2Proof/Machine/Dispatch.lean ====
section
/-! DEFINITION. One arm for each command row: a direct call of its meaning. -/

namespace Sys2Proof.Machine

open Sys2Proof

def exec (i : Instr) (s : State) : Host.Outcome State Fault Refusal :=
  match i with
  | .configureZone h p => Sys2Proof.Machine.execConfigureZone h p s
  | .configureBay h p => Sys2Proof.Machine.execConfigureBay h p s
  | .configureSensor h channel p => Sys2Proof.Machine.execConfigureSensor h channel p s
  | .configureSensorAll h p => Sys2Proof.Machine.execConfigureSensorAll h p s
  | .configureLuminaire h p => Sys2Proof.Machine.execConfigureLuminaire h p s
  | .setResponse h p => Sys2Proof.Machine.execSetResponse h p s
  | .setLink h threshold audit => Sys2Proof.Machine.execSetLink h threshold audit s
  | .enable h target => Sys2Proof.Machine.execEnable h target s
  | .disable h target => Sys2Proof.Machine.execDisable h target s
  | .request h p => Sys2Proof.Machine.execRequest h p s
  | .release h identity => Sys2Proof.Machine.execRelease h identity s
  | .clearFault h target => Sys2Proof.Machine.execClearFault h target s
  | .watch h target setting => Sys2Proof.Machine.execWatch h target setting s
  | .calibrate h first last settle => Sys2Proof.Machine.execCalibrate h first last settle s
  | .stopShadesNow h => Sys2Proof.Machine.execStopShadesNow h s
  | .stopSweepNow h => Sys2Proof.Machine.execStopSweepNow h s
  | .stopSweepAfterZone h => Sys2Proof.Machine.execStopSweepAfterZone h s
  | .shadeHome h bay => Sys2Proof.Machine.execShadeHome h bay s
  | .busHold h line => Sys2Proof.Machine.execBusHold h line s
  | .busRelease h line => Sys2Proof.Machine.execBusRelease h line s
  | .queryTarget h index => Sys2Proof.Machine.execQueryTarget h index s
  | .queryZone h index => Sys2Proof.Machine.execQueryZone h index s
  | .queryBay h index => Sys2Proof.Machine.execQueryBay h index s
  | .querySensor h index => Sys2Proof.Machine.execQuerySensor h index s
  | .querySensorAll h => Sys2Proof.Machine.execQuerySensorAll h s
  | .queryLuminaire h line address => Sys2Proof.Machine.execQueryLuminaire h line address s
  | .queryLuminaireAll h line => Sys2Proof.Machine.execQueryLuminaireAll h line s
  | .queryFault h start target => Sys2Proof.Machine.execQueryFault h start target s
  | .queryPending h index => Sys2Proof.Machine.execQueryPending h index s
  | .querySweep h index => Sys2Proof.Machine.execQuerySweep h index s
  | .resetPart h => Sys2Proof.Machine.execResetPart h s
  | .unknownKind h code payload => Sys2Proof.Machine.execUnknownKind h code payload s
  | .rstNAsserted => Sys2Proof.Machine.execRstNAsserted s
  | .rstNDeasserted => Sys2Proof.Machine.execRstNDeasserted s
  | .frameReceived body check => Sys2Proof.Machine.execFrameReceived body check s
  | .gapTimerExpiry => Sys2Proof.Machine.execGapTimerExpiry s
  | .hrdyAsserted => Sys2Proof.Machine.execHrdyAsserted s
  | .hrdyDeasserted => Sys2Proof.Machine.execHrdyDeasserted s
  | .transmitStart => Sys2Proof.Machine.execTransmitStart s
  | .frameSent => Sys2Proof.Machine.execFrameSent s
  | .scanTimerExpiry => Sys2Proof.Machine.execScanTimerExpiry s
  | .owedScanStart => Sys2Proof.Machine.execOwedScanStart s
  | .sensorAnswer channel raw arrival => Sys2Proof.Machine.execSensorAnswer channel raw arrival s
  | .sensorAnswerTimeout => Sys2Proof.Machine.execSensorAnswerTimeout s
  | .rampTick z => Sys2Proof.Machine.execRampTick z s
  | .settleTimerExpiry z => Sys2Proof.Machine.execSettleTimerExpiry z s
  | .readingTimerExpiry z => Sys2Proof.Machine.execReadingTimerExpiry z s
  | .glareHoldExpiry b => Sys2Proof.Machine.execGlareHoldExpiry b s
  | .holdExpiry identity => Sys2Proof.Machine.execHoldExpiry identity s
  | .waitExpiry identity => Sys2Proof.Machine.execWaitExpiry identity s
  | .stepEvent b home mark => Sys2Proof.Machine.execStepEvent b home mark s
  | .energiseTimerExpiry b home mark => Sys2Proof.Machine.execEnergiseTimerExpiry b home mark s
  | .driveHoldTimerExpiry b => Sys2Proof.Machine.execDriveHoldTimerExpiry b s
  | .powerWaitTimeout b => Sys2Proof.Machine.execPowerWaitTimeout b s
  | .luminaireAnswer l level arrival => Sys2Proof.Machine.execLuminaireAnswer l level arrival s
  | .luminaireAnswerTimeout l => Sys2Proof.Machine.execLuminaireAnswerTimeout l s
  | .auditTimerExpiry l => Sys2Proof.Machine.execAuditTimerExpiry l s
  | .updateTransactionStart l => Sys2Proof.Machine.execUpdateTransactionStart l s
  | .audit l => Sys2Proof.Machine.execAudit l s
  | .phaseTimerExpiry => Sys2Proof.Machine.execPhaseTimerExpiry s
  | .secondsCounterTick => Sys2Proof.Machine.execSecondsCounterTick s
  | .byteTaken b good => Sys2Proof.Machine.execByteTaken b good s

end Sys2Proof.Machine
end

