-- ==== Sys2Proof/Safety.lean ====
section
/-! DEFINITION. The predicates that statements about the part use: when the end of an event finds nothing to do, when a host
command is taken at once, and the conditions that every step keeps. -/

namespace Sys2Proof

open Sys2Proof.Machine

/-! ### Rows and payloads -/

/-- The row of the table that a host command is. -/
def Command.row (h : FrameHead) : Command → Instr
  | .configureZone p => .configureZone h p
  | .configureBay p => .configureBay h p
  | .configureSensor channel p => .configureSensor h channel p
  | .configureSensorAll p => .configureSensorAll h p
  | .configureLuminaire p => .configureLuminaire h p
  | .setResponse p => .setResponse h p
  | .setLink threshold audit => .setLink h threshold audit
  | .enable target => .enable h target
  | .disable target => .disable h target
  | .request p => .request h p
  | .release identity => .release h identity
  | .clearFault target => .clearFault h target
  | .watch target setting => .watch h target setting
  | .calibrate first last settle => .calibrate h first last settle
  | .stopShadesNow => .stopShadesNow h
  | .stopSweepNow => .stopSweepNow h
  | .stopSweepAfterZone => .stopSweepAfterZone h
  | .shadeHome bay => .shadeHome h bay
  | .busHold line => .busHold h line
  | .busRelease line => .busRelease h line
  | .queryTarget index => .queryTarget h index
  | .queryZone index => .queryZone h index
  | .queryBay index => .queryBay h index
  | .querySensor index => .querySensor h index
  | .querySensorAll => .querySensorAll h
  | .queryLuminaire line address => .queryLuminaire h line address
  | .queryLuminaireAll line => .queryLuminaireAll h line
  | .queryFault start target => .queryFault h start target
  | .queryPending index => .queryPending h index
  | .querySweep index => .querySweep h index
  | .resetPart => .resetPart h

/-- The length of a command's payload by its kind code (R206, R208). -/
def payloadLength (code : Nat) : Nat :=
  [20, 17, 7, 5, 3, 2, 1, 1, 12, 2, 1, 2, 3, 1, 1, 1, 1, 3, 0].getD (code - 1) 0

/-- A yes-or-no field holds 0 or 1 (R201). -/
def IsFlag (b : Byte) : Prop := b = 0 ∨ b = 1

/-- Every field of CONFIGURE ZONE is in the range of R3. -/
def ZonePayload.InRange (p : ZonePayload) : Prop :=
  p.zone.toNat ≤ 47 ∧ p.targetLux.toNat ≤ 2000 ∧ p.deadband.toNat ≤ 200 ∧ p.minLevel.toNat ≤ 1000 ∧
    p.maxLevel.toNat ≤ 1000 ∧ (1 ≤ p.upRate.toNat ∧ p.upRate.toNat ≤ 1000) ∧
    (1 ≤ p.downRate.toNat ∧ p.downRate.toNat ≤ 1000) ∧ p.fallback.toNat ≤ 1000 ∧
    (50 ≤ p.nominalGain.toNat ∧ p.nominalGain.toNat ≤ 5000) ∧ IsFlag p.ceilingSensor ∧ p.readingInterval.toNat ≤ 3600

/-- The ten configured fields that CONFIGURE ZONE carries (R3). -/
def ZonePayload.config (p : ZonePayload) : ZoneConfig :=
  { targetLux := p.targetLux.toNat, deadband := p.deadband.toNat, minLevel := p.minLevel.toNat,
    maxLevel := p.maxLevel.toNat, upRate := p.upRate.toNat, downRate := p.downRate.toNat, fallback := p.fallback.toNat,
    nominalGain := p.nominalGain.toNat, ceilingSensor := p.ceilingSensor == 1,
    readingInterval := p.readingInterval.toNat }

/-- Every field of CONFIGURE BAY is in the range of R6. -/
def BayPayload.InRange (p : BayPayload) : Prop :=
  p.bay.toNat ≤ 15 ∧ IsFlag p.skySensor ∧ 1 ≤ p.glareOn.toNat ∧ p.glareOff.toNat ≤ 65534 ∧
    p.glareOnHold.toNat ≤ 600 ∧ p.glareOffHold.toNat ≤ 600 ∧ IsFlag p.shadePresent ∧ p.openStop.toNat ≤ 239 ∧
    p.glareStop.toNat ≤ 239 ∧ p.fallbackStop.toNat ≤ 239 ∧
    (p.stepRate = 25 ∨ p.stepRate = 50 ∨ p.stepRate = 100 ∨ p.stepRate = 200) ∧ IsFlag p.verify ∧
    (1 ≤ p.settleInterval.toNat ∧ p.settleInterval.toNat ≤ 30)

/-- The twelve configured fields that CONFIGURE BAY carries (R6). -/
def BayPayload.config (p : BayPayload) : BayConfig :=
  { skySensor := p.skySensor == 1, glareOn := p.glareOn.toNat, glareOff := p.glareOff.toNat,
    glareOnHold := p.glareOnHold.toNat, glareOffHold := p.glareOffHold.toNat, shadePresent := p.shadePresent == 1,
    openStop := p.openStop.toNat, glareStop := p.glareStop.toNat, fallbackStop := p.fallbackStop.toNat,
    stepRate := p.stepRate.toNat, verify := p.verify == 1, settleInterval := p.settleInterval.toNat }

/-- The kind, value and fade rate of a REQUEST are allowed for its target (R74). -/
def RequestPayload.FieldsAllowed (p : RequestPayload) : Prop :=
  (p.target.toNat ≤ 47 ∧ p.kind = 1 ∧ p.value.toNat ≤ 1000 ∧ p.fade.toNat ≤ 1000) ∨
    (p.target.toNat ≤ 47 ∧ p.kind = 2 ∧ p.value.toNat ≤ 1000 ∧ p.fade = 0) ∨
    (p.target.toNat ≤ 47 ∧ p.kind = 3 ∧ p.value.toNat ≤ 2000 ∧ p.fade = 0) ∨
    (48 ≤ p.target.toNat ∧ p.kind = 1 ∧ p.value.toNat ≤ 239 ∧ p.fade = 0)

/-- The levels that a REQUEST may carry (R67, R73). -/
def RequestLevel (level : Nat) : Prop := level ≤ 14 ∧ level ≠ 2 ∧ level ≠ 12

/-- The HOST context of a request, with its hold timer started when it carries a hold (R66, R77). -/
def RequestPayload.contextOf (p : RequestPayload) (kind : Kind) : Context :=
  { origin := .host, level := p.level.toNat, kind := kind, value := some p.value.toNat, fade := p.fade.toNat,
    hold := if p.hold = 0 then none else some (1000 * p.hold.toNat), identity := some p.identity.toNat, locked := false }

end Sys2Proof

namespace Sys2Proof.Machine

open Sys2Proof

/-! ### The end of an event -/

/-- An engine finds no transaction to start: the line is not RUN or has one in flight, or has nothing listed and owes no audit
(R154, R159). -/
def LineAtRest (r : Line) : Prop := r.quiet = false ∨ (r.list = [] ∧ r.auditOwed = false)

/-- Neither engine finds a transaction to start. -/
def LinesAtRest (s : State) : Prop := LineAtRest s.lineL0 ∧ LineAtRest s.lineL1

/-- The transmitter cannot start a frame: HRDY is deasserted or a frame is being sent (R196). -/
def TransmitterBlocked (s : State) : Prop := s.hrdy = false ∨ s.link.sending.isSome = true

/-- No good frame waits for the Decoder. -/
def NothingInbound (s : State) : Prop := s.link.mailbox = none ∧ s.link.inbound = []

/-- The Report Queue has room for a reply (R190). -/
def GateOpen (s : State) : Prop := s.link.reports.length < Config.reportCap

/-- The end of an event finds nothing to transmit, to take or to start. -/
def Quiet (s : State) : Prop := TransmitterBlocked s ∧ LinesAtRest s ∧ (NothingInbound s ∨ ¬ GateOpen s)

/-- RST_N is deasserted. -/
def Operating (s : State) : Prop := s.rstAsserted = false

/-- The part operates and the Decoder takes a host command when it arrives (R190, log 2). -/
def Taking (s : State) : Prop := Operating s ∧ GateOpen s ∧ NothingInbound s

/-! ### Replies -/

/-- The part after the REPLY of a command and nothing else: the record at the tail of the Report Queue, with the link flags as
they stood, which it clears (R191, R192). -/
def replied (tag : Byte) (status : Status) (result : List Byte) (s : State) : State :=
  { s with link :=
      { s.link with
        reports := s.link.reports ++ [.reply tag status s.link.flags result]
        flags := ⟨false, false, false, false⟩ } }

/-- The part after one notice other than a READING and nothing else (R193). -/
def noticed (r : Record) (s : State) : State :=
  if s.link.reports.length < 64 then { s with link := { s.link with reports := s.link.reports ++ [r] } }
  else { s with link := { s.link with flags := { s.link.flags with reportLost := true } } }

/-- The part after notices other than a READING, one after another, and nothing else. -/
def notedAll (rs : List Record) (s : State) : State := rs.foldl (fun u r => noticed r u) s

/-- The REPLY of a command stands in the Report Queue directly behind the records that were there (R191). -/
def RepliesFirst (tag : Byte) (status : Status) (result : List Byte) (s u : State) : Prop :=
  (s.link.reports ++ [.reply tag status s.link.flags result]) <+: u.link.reports

/-- The command answers with a next state; `effect` is the part after its own effect, from which the end of the event goes
on. -/
def Completes (c : Instr) (s effect : State) : Prop := exec c s = .next (settle effect)

/-- The part after a good frame has been routed and nothing else (R189). -/
def stored (f : Frame) (s : State) : State :=
  if f.urgent = true then
    if s.link.mailbox = none then { s with link := { s.link with mailbox := some f } }
    else { s with link := { s.link with flags := { s.link.flags with urgentLost := true } } }
  else if s.link.inbound.length < 16 then { s with link := { s.link with inbound := s.link.inbound ++ [f] } }
  else { s with link := { s.link with flags := { s.link.flags with inboundLost := true } } }

/-- The part with the receiver in HUNT and its gap timer stopped (R188). -/
def hunting (s : State) : State := { s with link := { s.link with receiver := .hunt, gapTimer := none } }

/-- The part after a frame attempt has been discarded: HUNT, with FRAME_ERROR set (R188). -/
def discarded (s : State) : State :=
  { s with link :=
      { s.link with receiver := .hunt, gapTimer := none, flags := { s.link.flags with frameError := true } } }

/-- The part with the receiver in a state and its gap timer started with 20 ms (R188). -/
def receiving (r : Receiver) (s : State) : State := { s with link := { s.link with receiver := r, gapTimer := some 20 } }

/-! ### Sweeps and requests -/

/-- No zone is being calibrated. -/
def NoZoneCalibrating (s : State) : Prop := s.sweep.current = none

/-- An identity stands on a context stack or on the Pending List (R72). -/
def IdentityTaken (s : State) (identity : Nat) : Prop :=
  (∃ t, ∃ c ∈ (s.target t).above, c.identity = some identity) ∨ ∃ e ∈ s.pendingList, e.identity = identity

/-- A REQUEST for a target passes every check of R73. -/
def RequestPasses (p : RequestPayload) (t : TargetId) (s : State) : Prop :=
  p.target.toNat = t.val ∧ (s.target t).state = .active ∧ RequestLevel p.level.toNat ∧ p.FieldsAllowed ∧
    p.identity ≠ 0 ∧ ¬ IdentityTaken s p.identity.toNat ∧ ((s.target t).locked = false ∨ p.level = 0)

/-- No Pending List entry belongs to the target. -/
def NoEntries (s : State) (t : TargetId) : Prop := ∀ e ∈ s.pendingList, e.target ≠ t

/-! ### A changed active context -/

/-- The TARGET CHANGE of a claim that leaves the target's record `r` with a changed active context: one where the target is
watched, else none (R93). -/
def changeNotice (t : TargetId) (r : Target) : List Record :=
  if r.watch = true then
    [.targetChange t r.active.origin r.active.kind r.active.level r.active.value r.active.identity r.active.locked]
  else []

/-- The active context of `r`, which a removal exposes, can be handed on without a raise and without a report that closes the
window. It is a base or HOST context, or a zone's unlocked fault context away from the output; a zone under it measures, has
lost its measure before, or is under FIX (R44); and a drive in HOLDING knows its position (R123, R126). -/
def ExposedQuietly (s : State) (t : TargetId) (r : Target) : Prop :=
  r.state = .active ∧
    (r.active.origin = .base ∨ r.active.origin = .host ∨
      ∃ z v, t = zoneTarget z ∧ r.active = ⟨.fault, 2, .fix, some v, 0, none, none, false⟩ ∧ v ≠ (s.zone z).output) ∧
    (∀ z, t = zoneTarget z →
      r.active.kind = .fix ∨ (s.zone z).source ≠ .none ∨ (s.zone z).measureLost = true) ∧
    (∀ b, t = shadeTarget b → (s.drive b).state = .holding → (s.drive b).position.isSome = true)

/-- From `s` to `u` the record of target `t` became `r` and its active context was handed on (R46, R91): to a zone its copy,
with the output, the ramp target and the rates that the context gives; to a drive its desired stop. No other target and no
entry of the Pending List changed. -/
structure HandedOn (s u : State) (t : TargetId) (r : Target) : Prop where
  target : u.target t = r
  others : ∀ x, x ≠ t → u.target x = s.target x
  entries : u.pendingList = s.pendingList
  copy : ∀ z, t = zoneTarget z → (u.zone z).copy =
    ⟨r.active.origin, r.active.kind, r.active.level, r.active.value, r.active.fade, r.active.locked⟩
  immediate : ∀ z v, t = zoneTarget z → r.active.origin ≠ .fault → r.active.kind = .fix → r.active.value = some v →
    r.active.fade = 0 → (u.zone z).output = v ∧ (u.zone z).rampTarget = v
  fading : ∀ z v, t = zoneTarget z → r.active.origin ≠ .fault → r.active.kind = .fix → r.active.value = some v →
    r.active.fade ≠ 0 → (u.zone z).output = (s.zone z).output ∧ (u.zone z).rampTarget = v ∧
      (u.zone z).rates = .perSecond r.active.fade r.active.fade
  fallback : ∀ z v, t = zoneTarget z → r.active.origin = .fault → r.active.value = some v →
    (u.zone z).output = (s.zone z).output ∧ (u.zone z).rampTarget = v ∧
      (u.zone z).rates = .perSecond (s.zone z).cfg.upRate (s.zone z).cfg.downRate
  automatic : ∀ z, t = zoneTarget z → r.active.kind ≠ .fix → (u.zone z).output = (s.zone z).output ∧
    (u.zone z).rates = .perSecond (s.zone z).cfg.upRate (s.zone z).cfg.downRate
  stop : ∀ b, t = shadeTarget b → (s.drive b).state ≠ .off → (u.drive b).desired = r.active.value

/-! ### Calibration -/

/-- Zone `z` is being calibrated, with its CALIBRATE context of value `v` on top of `rest` (R172, R173). -/
structure Calibrating (s : State) (z : ZoneId) (v : Nat) (rest : List Context) : Prop where
  current : s.sweep.current = some z
  active : (s.target (zoneTarget z)).state = .active
  top : (s.target (zoneTarget z)).above = ⟨.calibrate, 12, .fix, some v, 0, none, none, false⟩ :: rest
  beneath : ∀ c ∈ rest, c.origin ≠ .calibrate

/-- From `s` to `u` the CALIBRATE context of zone `z` has taken value `v`, with the zone's output at it, and the TARGET CHANGE
of a watched target has been sent (R47, R173). -/
structure CalibrateValueTaken (s u : State) (z : ZoneId) (v : Nat) (rest : List Context) : Prop where
  target : u.target (zoneTarget z) = { s.target (zoneTarget z) with
    above := ⟨.calibrate, 12, .fix, some v, 0, none, none, false⟩ :: rest }
  zone : u.zone z = { s.zone z with output := v, rampTarget := v, rampTimer := none, rates := .immediate,
                                    copy := ⟨.calibrate, .fix, 12, some v, 0, false⟩ }
  targets : ∀ t, t ≠ zoneTarget z → u.target t = s.target t
  zones : ∀ y, y ≠ z → u.zone y = s.zone y
  entries : u.pendingList = s.pendingList
  bays : u.bays = s.bays
  drives : u.drives = s.drives
  link : u.link = (notedAll (changeNotice (zoneTarget z) (u.target (zoneTarget z))) s).link

/-- The cause of the SWEEP END of a sweep that ends with zone `z`: it was the last of the range, or the sweep was STOPPING
(R170, R182, R184). -/
def EndsWith (s : State) (z : ZoneId) (cause : SweepCause) : Prop :=
  (s.sweep.state = .running ∧ s.sweep.last ≤ z ∧ cause = .complete) ∨ (s.sweep.state = .stopping ∧ cause = .stopped)

/-- The sweep record after its last zone, with its counts (R176, R184). The restart used mark keeps its value, since R176 step 4
does not name it (DEDUCED, log 27). -/
def sweepOver (r : Sweep) (counts : SweepCounts) : Sweep :=
  { r with state := .idle, current := none, phase := .none, timer := none, ceilingValid := false, latestSky := none,
           m0 := none, s0 := none, m1 := none, s1 := none, counts := counts }

/-- From `s` to `u` zone `z` has ended and the sweep with it: the CALIBRATE context is popped, what it exposes is handed on,
and the bay is unfrozen (R176). -/
structure ZoneAndSweepEnded (s u : State) (z : ZoneId) (r : Target) (counts : SweepCounts) : Prop where
  handed : HandedOn s u (zoneTarget z) r
  sweep : u.sweep = sweepOver s.sweep counts
  bay : u.bay (bayOf z) = { s.bay (bayOf z) with frozen := false }

/-! ### Conditions that every step keeps -/

/-- A luminaire belongs on its line's list: dirty, not MISSING, and not in flight (R152). -/
def Line.waits (r : Line) (a : Address) : Bool := (r.lum a).dirty && (r.lum a).presence != .missing && !r.inFlight a

/-- The list holds exactly the luminaires that belong on it, once each (R152, R153). -/
structure Line.Listed (r : Line) : Prop where
  nodup : r.list.Nodup
  listed : ∀ a, a ∈ r.list ↔ r.waits a = true

/-- The list is right, and an update in flight is for a luminaire that is not MISSING (R152 to R154). -/
structure Line.Sound (r : Line) : Prop where
  list : r.Listed
  update : ∀ t, r.transaction = some t → t.purpose = .update → (r.lum t.address).presence ≠ .missing

/-- Both lines' lists are right. -/
def LinesSound (s : State) : Prop := s.lineL0.Sound ∧ s.lineL1.Sound

/-- The receiver's expectations are those of a frame (R187, R188). -/
def Receiver.Sound : Receiver → Prop
  | .hunt => True
  | .length => True
  | .body expected kept => 2 ≤ expected ∧ expected ≤ 50 ∧ kept.length < expected
  | .check kept _ => 2 ≤ kept.length ∧ kept.length ≤ 50

/-- The link stores are within their bounds, the two values of SET LINK in their ranges, the receiver in a state of R188, and
its gap timer runs exactly outside HUNT (R188, R189, R193, R194). -/
structure LinkPort.Sound (r : LinkPort) : Prop where
  reports : r.reports.length ≤ 64
  inbound : r.inbound.length ≤ 16
  threshold : 16 ≤ r.threshold ∧ r.threshold ≤ 63
  audit : 1 ≤ r.auditInterval ∧ r.auditInterval ≤ 60
  receiver : r.receiver.Sound
  gap : r.gapTimer.isSome = true ↔ r.receiver ≠ .hunt

/-- A channel record is in the ranges of R23, and what its state says of its history and its filtered value holds (R28, R30,
R31). -/
structure Channel.Sound (r : Channel) : Prop where
  scale : 1 ≤ r.scale ∧ r.scale ≤ 4096
  shift : r.shift ≤ 4
  values : ∀ v ∈ r.history, v ≤ 65535
  filtered : r.filtered.isSome = true ↔ r.state = .valid
  filteredRange : ∀ v, r.filtered = some v → v ≤ 65535
  collecting : r.state ≠ .valid → r.history.length ≤ 2
  full : r.state = .valid → r.history.length = 3
  misses : r.missCount ≤ 1
  recoveries : r.recoveryCount ≤ 2
  run : 1 ≤ r.runCount ∧ r.runCount ≤ 300

/-- The scan interval is one that R26 allows, and every channel record is sound. -/
def ScannerSound (s : State) : Prop :=
  (100 ≤ s.scanner.interval ∧ s.scanner.interval ≤ 2000 ∧ s.scanner.interval % 100 = 0) ∧ ∀ c, (s.channel c).Sound

end Sys2Proof.Machine
end

