-- ==== Sys2Proof/Certificates/Slice0/Obligations.lean ====
section
/-! DEFINITION. The statements about the part, one `def Obligations.<Name> : Prop` each. `Completes c s u` says that the command
answers a next state: the part `u` after the command's own effect, from which the end of the event goes on (`settle`, log 1);
where nothing waits to be sent, taken or started, that is `u` itself (EventEndActsOnlyWhereItMust). -/

open Sys2Proof Sys2Proof.Machine

/-! ### Steps -/

/-- One step carries out the command at the front of the queue on the part with the queue's rest. -/
def Obligations.StepRunsFrontCommand : Prop :=
  ∀ (c : Instr) (rest : List Instr) (s : State),
    step { s with pending := c :: rest } = exec c { s with pending := rest }

/-- On an empty queue one millisecond passes (the model's choice: log 3): every running timer has one millisecond less, down to
one at which it stays due, a stopped timer stays stopped, and nothing else of the part changes. A part held in reset stays as
it is (R198). -/
def Obligations.StepOnEmptyQueuePassesOneMillisecond : Prop :=
  ∀ s : State, s.pending = [] →
    (s.rstAsserted = true → step s = .next s) ∧
    (Operating s → ∀ less, less = (fun ms : Nat => max 1 (ms - 1)) →
      step s = .next { s with
        link := { s.link with gapTimer := s.link.gapTimer.map less }
        scanner := { s.scanner with
          scanTimer := s.scanner.scanTimer.map less
          poll := s.scanner.poll.map fun p => { p with answerTimer := p.answerTimer.map less } }
        zones := s.zones.map fun r => { r with
          settleTimer := r.settleTimer.map less, readingTimer := r.readingTimer.map less
          rampTimer := r.rampTimer.map less }
        bays := s.bays.map fun r => { r with glareTimer := r.glareTimer.map less }
        targets := s.targets.map fun r => { r with above := r.above.map fun c => { c with hold := c.hold.map less } }
        pendingList := s.pendingList.map fun e => { e with wait := e.wait.map less }
        drives := s.drives.map fun r => { r with
          stepTimer := r.stepTimer.map less, energiseTimer := r.energiseTimer.map less
          holdTimer := r.holdTimer.map less, waitTimer := r.waitTimer.map less }
        lineL0 := { s.lineL0 with
          answerTimer := s.lineL0.answerTimer.map less, auditTimer := s.lineL0.auditTimer.map less }
        lineL1 := { s.lineL1 with
          answerTimer := s.lineL1.answerTimer.map less, auditTimer := s.lineL1.auditTimer.map less }
        sweep := { s.sweep with timer := s.sweep.timer.map less } })

/-- Every command of the table answers a next state, in every state of the part: no meaning stops
(that the manual stops the part nowhere is the model's reading of it, DEDUCED, log 19). -/
def Obligations.EveryCommandAnswersNext : Prop := ∀ (c : Instr) (s : State), ∃ t, exec c s = .next t

/-- While RST_N is asserted the part is held: every command but those of the pins RST_N and HRDY, and the two that show the
levels of HOME and MARK, leaves it as it is. -/
def Obligations.HeldWhileResetIsAsserted : Prop :=
  ∀ (c : Instr) (s : State), s.rstAsserted = true → c ≠ .rstNAsserted → c ≠ .rstNDeasserted → c ≠ .hrdyAsserted →
    c ≠ .hrdyDeasserted → (∀ b home mark, c ≠ .stepEvent b home mark) →
    (∀ b home mark, c ≠ .energiseTimerExpiry b home mark) → exec c s = .next s

/-! ### Reset -/

/-- What reset leaves in the records, the tables and the flags, as the manual states it; the three conditions that every step
keeps hold then. -/
def Obligations.ResetLeavesTheStatedValues : Prop :=
  (∀ t, (State.reset.target t).state = .unconfigured ∧ (State.reset.target t).above = [] ∧
    (State.reset.target t).watch = false ∧ (State.reset.target t).window = false ∧
    (State.reset.target t).fault = none) ∧
  (∀ z, (State.reset.target (zoneTarget z)).baseValue = none) ∧
  (∀ b, (State.reset.target (shadeTarget b)).baseValue = some 0) ∧
  (∀ c, (State.reset.response c).action =
      (match c with
        | .shadeSwitchError => FaultAction.lock
        | .measureLost | .shadeHomeError | .shadeSeekError => FaultAction.fallback
        | _ => FaultAction.report) ∧
    (State.reset.response c).alarm =
      (match c with
        | .shadeHomeError | .shadeSeekError | .shadeSwitchError => true
        | _ => false)) ∧
  State.reset.link.flags = ⟨false, false, false, false⟩ ∧
  (∀ z, (State.reset.zone z).output = 0 ∧ (State.reset.zone z).rampTarget = 0 ∧ (State.reset.zone z).source = .none ∧
    (State.reset.zone z).settling = false ∧ (State.reset.zone z).cal = none ∧
    (State.reset.zone z).cfg.nominalGain = 50 ∧ (State.reset.zone z).cfg.upRate = 1 ∧
    (State.reset.zone z).cfg.downRate = 1) ∧
  (∀ b, (State.reset.bay b).glare = .clear ∧ (State.reset.bay b).halted = false ∧
    (State.reset.bay b).cfg.glareOn = 65535 ∧ (State.reset.bay b).cfg.stepRate = 25 ∧
    (State.reset.bay b).cfg.settleInterval = 1) ∧
  (∀ c, (State.reset.channel c).state = .unused ∧ (State.reset.channel c).scale = 1024 ∧
    (State.reset.channel c).shift = 2 ∧ (State.reset.channel c).history = [] ∧
    (State.reset.channel c).runCount = 1) ∧
  (∀ b, (State.reset.drive b).state = .off ∧ (State.reset.drive b).position = none ∧
    (State.reset.drive b).grant = false) ∧
  (∀ l, (State.reset.line l).state = .run ∧ (State.reset.line l).list = [] ∧
    (State.reset.line l).transaction = none ∧ (State.reset.line l).auditTimer = some 5000 ∧
    (State.reset.line l).auditOwed = false ∧ (State.reset.line l).cursor = none) ∧
  (∀ l a, State.reset.lum l a =
    { configured := false, zone := none, trim := 1000, presence := .unknown, sent := none, confirmed := none,
      setConfirmed := false, dirty := false, mismatch := false }) ∧
  State.reset.sweep.state = .idle ∧ State.reset.pendingList = [] ∧ State.reset.seconds = 0 ∧
  State.reset.scanner.interval = 500 ∧ State.reset.scanner.scanTimer = some 500 ∧
  State.reset.link.reports = [.started .pin none] ∧ State.reset.link.threshold = 48 ∧
  State.reset.link.auditInterval = 5 ∧ State.reset.link.receiver = .hunt ∧ State.reset.link.alarm = none ∧
  State.reset.link.inbound = [] ∧ State.reset.link.mailbox = none ∧ State.reset.grantQueue = [] ∧
  State.reset.link.Sound ∧ LinesSound State.reset ∧ ScannerSound State.reset

/-- The rows of RST_N and RESET PART: what they leave, and STARTED with its cause (the levels of the inputs and the waiting
commands are not the part's to reset). -/
def Obligations.ResetRowsLeaveResetValues : Prop :=
  ∀ s : State,
    (exec .rstNAsserted s = .next { State.reset with rstAsserted := true, hrdy := s.hrdy, homeIn := s.homeIn,
                                                     markIn := s.markIn, pending := s.pending, link := LinkPort.reset }) ∧
    (s.rstAsserted = true →
      Completes .rstNDeasserted s { State.reset with hrdy := s.hrdy, homeIn := s.homeIn, markIn := s.markIn,
                                                     pending := s.pending }) ∧
    (∀ h, Taking s →
      Completes (.resetPart h) s
        { State.reset with hrdy := s.hrdy, homeIn := s.homeIn, markIn := s.markIn, pending := s.pending,
                           link := { LinkPort.reset with receiver := s.link.receiver, gapTimer := s.link.gapTimer,
                                                         sending := s.link.sending,
                                                         reports := [.started .command (some h.tag)] } })

/-! ### Conditions that every step keeps -/

/-- The link stores stay within their bounds, the values of SET LINK in their ranges, and the receiver in a state of R188. -/
def Obligations.LinkStaysSound : Prop :=
  ∀ s t : State, s.link.Sound → step s = .next t → t.link.Sound

/-- Each line's pending list holds exactly the luminaires that wait for a SET, once each. -/
def Obligations.LinesStaySound : Prop :=
  ∀ s t : State, LinesSound s → step s = .next t → LinesSound t

/-- The scan interval and every channel record stay in their ranges; a channel is VALID exactly while it has a filtered
value. -/
def Obligations.ScannerStaysSound : Prop :=
  ∀ s t : State, ScannerSound s → step s = .next t → ScannerSound t

/-! ### Frames -/

/-- The decoder gives back every command from the frame that carries it, with every field at every value. -/
def Obligations.DecodeGivesBackEveryCommand : Prop :=
  ∀ (h : FrameHead) (c : Command), c.wellFormed = true → decodeFrame (encodeCommand h c) = .ok c

/-- A frame is read from its bytes whole, a command's frame has a length that the wire allows, and the CRC of the text
123456789 is 0x29B1. -/
def Obligations.FramesSurviveTheirBytes : Prop :=
  (∀ f : Frame, frameOfBody f.body = some f) ∧
  (∀ h c, 2 ≤ (encodeCommand h c).body.length ∧ (encodeCommand h c).body.length ≤ 50) ∧
  crc16 [0x31, 0x32, 0x33, 0x34, 0x35, 0x36, 0x37, 0x38, 0x39] = 0x29B1

/-- A kind code that names no command is refused before the length, and a wrong length before any field; the row of such a
frame is answered UNKNOWN_KIND and changes nothing else. -/
def Obligations.DecoderRefusesKindThenLength : Prop :=
  (∀ f : Frame,
    (¬ (1 ≤ f.code.toNat ∧ f.code.toNat ≤ 0x13) → decodeFrame f = .error .unknownKind) ∧
    (1 ≤ f.code.toNat → f.code.toNat ≤ 0x13 → f.payload.length ≠ payloadLength f.code.toNat →
      decodeFrame f = .error .badLength)) ∧
  (∀ (h : FrameHead) (code : BitVec 7) (payload : List Byte) (s : State), Taking s →
    Completes (.unknownKind h code payload) s (replied h.tag .unknownKind [] s))

/-- A host command that the Decoder cannot take yet (the Report Queue is full or frames wait before it) is stored with its
frame whole, or lost with its flag. That the row of a command is the arrival of the frame that carries it is the model's choice
(log 2). -/
def Obligations.HostCommandWaitsWhenNotTaken : Prop :=
  ∀ (h : FrameHead) (s : State), Operating s → ¬ (GateOpen s ∧ NothingInbound s) →
    (∀ c : Command, Completes (c.row h) s (stored (encodeCommand h c) s)) ∧
    (∀ code payload, Completes (.unknownKind h code payload) s (stored ⟨h.urgent, code, h.tag, payload⟩ s))

/-! ### Link rows -/

/-- A frame received whole is good when its check is the CRC of its length, kind, tag and payload, and is then routed by its
urgent bit; any other attempt is discarded with FRAME_ERROR. -/
def Obligations.FrameReceivedIsRouted : Prop :=
  ∀ (body : List Byte) (check : Half) (s : State), Operating s →
    (∀ f : Frame, body = f.body → f.payload.length ≤ 48 → check = crc16 (BitVec.ofNat 8 body.length :: body) →
      Completes (.frameReceived body check) s (stored f (hunting s))) ∧
    (2 ≤ body.length → body.length ≤ 50 → check ≠ crc16 (BitVec.ofNat 8 body.length :: body) →
      Completes (.frameReceived body check) s (discarded s)) ∧
    (body.length < 2 ∨ 50 < body.length → Completes (.frameReceived body check) s (discarded s))

/-- The receiver's table, its gap timer and its state after reset. -/
def Obligations.ReceiverFollowsItsTable : Prop :=
  (∀ (b : Byte) (good : Bool) (s : State), Operating s →
    (s.link.receiver = .hunt →
      (good = true ∧ b = 0xA5 → Completes (.byteTaken b good) s (receiving .length s)) ∧
      (¬ (good = true ∧ b = 0xA5) → Completes (.byteTaken b good) s s)) ∧
    (s.link.receiver = .length →
      (good = true → 2 ≤ b.toNat → b.toNat ≤ 50 → Completes (.byteTaken b good) s (receiving (.body b.toNat []) s)) ∧
      (good = true → (b.toNat < 2 ∨ 50 < b.toNat) → Completes (.byteTaken b good) s (discarded s))) ∧
    (∀ n kept, s.link.receiver = .body n kept → good = true →
      (kept.length + 1 < n → Completes (.byteTaken b good) s (receiving (.body n (kept ++ [b])) s)) ∧
      (n ≤ kept.length + 1 → Completes (.byteTaken b good) s (receiving (.check (kept ++ [b]) none) s))) ∧
    (∀ kept, s.link.receiver = .check kept none → good = true →
      Completes (.byteTaken b good) s (receiving (.check kept (some b)) s)) ∧
    (∀ kept hi, s.link.receiver = .check kept (some hi) → good = true →
      (∀ f : Frame, kept = f.body → hi ++ b = crc16 (BitVec.ofNat 8 kept.length :: kept) →
        Completes (.byteTaken b good) s (stored f (hunting s))) ∧
      (hi ++ b ≠ crc16 (BitVec.ofNat 8 kept.length :: kept) → Completes (.byteTaken b good) s (discarded s))) ∧
    (s.link.receiver ≠ .hunt → good = false → Completes (.byteTaken b good) s (discarded s))) ∧
  (∀ s : State, Operating s → s.link.gapTimer.isSome = true → Completes .gapTimerExpiry s (discarded s)) ∧
  State.reset.link.receiver = .hunt ∧ State.reset.link.gapTimer = none

/-- The rows of HRDY write its level, and the free seconds counter counts and returns to 0. -/
def Obligations.ReadyLineAndSecondsCounter : Prop :=
  ∀ s : State, Operating s →
    Completes .hrdyAsserted s { s with hrdy := true } ∧ Completes .hrdyDeasserted s { s with hrdy := false } ∧
    (∃ t : State, Completes .secondsCounterTick s t ∧ t = { s with seconds := t.seconds } ∧
      (s.seconds.toNat < 4294967295 → t.seconds.toNat = s.seconds.toNat + 1) ∧
      (s.seconds.toNat = 4294967295 → t.seconds = 0))

/-- The idle transmitter starts a frame while HRDY is asserted, from the Alarm Mailbox when it is occupied and else from the
head of the Report Queue, and becomes idle at the frame's end. -/
def Obligations.TransmitterTakesAlarmsFirst : Prop :=
  ∀ s : State, Operating s →
    (s.hrdy = true → s.link.sending = none → ∀ r, s.link.alarm = some r →
      Completes .transmitStart s { s with link := { s.link with alarm := none, sending := some ⟨true, r⟩ } }) ∧
    (s.hrdy = true → s.link.sending = none → s.link.alarm = none → ∀ r rest, s.link.reports = r :: rest →
      Completes .transmitStart s { s with link := { s.link with reports := rest, sending := some ⟨false, r⟩ } }) ∧
    (s.hrdy = false ∨ s.link.sending ≠ none ∨ (s.link.alarm = none ∧ s.link.reports = []) →
      Completes .transmitStart s s) ∧
    Completes .frameSent s { s with link := { s.link with sending := none } }

/-- The end of an event changes nothing where nothing waits to be sent, to be taken or to be started; it starts a frame where
only the transmitter has something to do; and a frame that waits is taken as soon as the Report Queue has room, the mailbox
before the queue. -/
def Obligations.EventEndActsOnlyWhereItMust : Prop :=
  (∀ s : State, Quiet s → settle s = s) ∧
  (∀ s : State, LinesAtRest s → NothingInbound s → s.hrdy = true → s.link.sending = none →
    (∀ r, s.link.alarm = some r →
      settle s = { s with link := { s.link with alarm := none, sending := some ⟨true, r⟩ } }) ∧
    (s.link.alarm = none → ∀ r rest, s.link.reports = r :: rest →
      settle s = { s with link := { s.link with reports := rest, sending := some ⟨false, r⟩ } })) ∧
  (∀ (s : State) (f : Frame), LinesAtRest s → TransmitterBlocked s → GateOpen s →
      (s.link.mailbox = some f → s.link.inbound = [] →
        settle s = testLines (takeFrame f { s with link := { s.link with mailbox := none } })) ∧
      (s.link.mailbox = none → s.link.inbound = [f] →
        settle s = testLines (takeFrame f { s with link := { s.link with inbound := [] } })) ∧
      (∀ g rest, s.link.mailbox = some f → s.link.inbound = g :: rest →
        chooseFrame s = some (f, { s with link := { s.link with mailbox := none } })))

/-! ### Configuration -/

/-- CONFIGURE ZONE: the checks in order, and the whole of what an accepted command changes. -/
def Obligations.ConfigureZoneWritesTheRecord : Prop :=
  ∀ (h : FrameHead) (p : ZonePayload) (s : State), Taking s →
    (¬ p.InRange → Completes (.configureZone h p) s (replied h.tag .badValue [] s)) ∧
    (p.InRange → p.maxLevel.toNat < p.minLevel.toNat →
      Completes (.configureZone h p) s (replied h.tag .badValue [] s)) ∧
    (p.InRange → p.minLevel.toNat ≤ p.maxLevel.toNat → ∀ z : ZoneId, z.val = p.zone.toNat →
      ((s.target (zoneTarget z)).state = .active → Completes (.configureZone h p) s (replied h.tag .busy [] s)) ∧
      ((s.target (zoneTarget z)).state ≠ .active →
        Completes (.configureZone h p) s
          (((replied h.tag .ok [] s).setZone z { s.zone z with cfg := p.config }).setTarget (zoneTarget z)
            { s.target (zoneTarget z) with state := .dormant })))

/-- CONFIGURE BAY: the checks in order; what an accepted command writes; the position rule of a changed shade present field,
which waits for OFF while the drive is still on its way there (log 12); and the whole of the change where no zone reads the
sky sensor field anew, with the base value of the shade target left as it was (the model's choice, log 36). -/
def Obligations.ConfigureBayWritesTheRecord : Prop :=
  ∀ (h : FrameHead) (p : BayPayload) (s : State), Taking s →
    (¬ p.InRange ∨ (p.InRange ∧ p.glareOn.toNat ≤ p.glareOff.toNat) →
      Completes (.configureBay h p) s (replied h.tag .badValue [] s)) ∧
    (p.InRange → p.glareOff.toNat < p.glareOn.toNat → ∀ b : BayId, b.val = p.bay.toNat →
      ((s.target (shadeTarget b)).state = .active → Completes (.configureBay h p) s (replied h.tag .busy [] s)) ∧
      ((s.target (shadeTarget b)).state ≠ .active →
        (∃ u, Completes (.configureBay h p) s u ∧ (u.bay b).cfg = p.config ∧
          (u.target (shadeTarget b)).state = .dormant ∧ RepliesFirst h.tag .ok [] s u) ∧
        ((s.bay b).cfg.skySensor = p.config.skySensor ∨
            ((∀ z ∈ zonesOf b, (s.target (zoneTarget z)).state ≠ .active) ∧ s.sweep.current = none) →
          ∀ u, u = ((replied h.tag .ok [] s).setBay b { s.bay b with cfg := p.config }).setTarget (shadeTarget b)
              { s.target (shadeTarget b) with state := .dormant } →
            (p.config.shadePresent = (s.bay b).cfg.shadePresent → Completes (.configureBay h p) s u) ∧
            (p.config.shadePresent ≠ (s.bay b).cfg.shadePresent → (s.drive b).state = .off →
              Completes (.configureBay h p) s (u.setDrive b { s.drive b with position := none })) ∧
            (p.config.shadePresent ≠ (s.bay b).cfg.shadePresent → (s.drive b).state ≠ .off →
              Completes (.configureBay h p) s (u.setDrive b { s.drive b with positionRule := true })))))

/-- CONFIGURE SENSOR with a channel number: the check, the channel record written anew, the discarded exchange, and the
channel's readers told when it leaves VALID; and with channel ALL: the scan interval and the scan timer, and nothing else. -/
def Obligations.ConfigureSensorWritesItsFields : Prop :=
  ∀ (h : FrameHead) (channel : Byte) (p : SensorPayload) (s : State), Taking s →
    (100 ≤ p.interval.toNat → p.interval.toNat ≤ 2000 → p.interval.toNat % 100 = 0 →
      Completes (.configureSensorAll h p) s
        ((replied h.tag .ok [] s).setScanner { s.scanner with interval := p.interval.toNat,
                                                              scanTimer := some p.interval.toNat })) ∧
    (¬ (100 ≤ p.interval.toNat ∧ p.interval.toNat ≤ 2000 ∧ p.interval.toNat % 100 = 0) →
      Completes (.configureSensorAll h p) s (replied h.tag .badValue [] s)) ∧
    (¬ (channel.toNat ≤ 63 ∧ IsFlag p.used ∧ 1 ≤ p.scale.toNat ∧ p.scale.toNat ≤ 4096 ∧ p.shift.toNat ≤ 4) →
      Completes (.configureSensor h channel p) s (replied h.tag .badValue [] s)) ∧
    (∀ c : ChannelId, c.val = channel.toNat → IsFlag p.used → 1 ≤ p.scale.toNat → p.scale.toNat ≤ 4096 →
      p.shift.toNat ≤ 4 → ∃ u, Completes (.configureSensor h channel p) s u ∧
        u.channel c = { used := p.used == 1, scale := p.scale.toNat, shift := p.shift.toNat,
                        state := if p.used = 1 then .starting else .unused, history := [], filtered := none,
                        lastRaw := none, missCount := 0, recoveryCount := 0, runCount := 1, spans := [] } ∧
        (∀ d, d ≠ c → u.channel d = s.channel d) ∧
        ((s.channel c).state = .valid → u.view c = ⟨false, none⟩) ∧
        ((s.channel c).state ≠ .valid → u.views = s.views) ∧
        u.scanner = { s.scanner with poll := s.scanner.poll.map fun q =>
                                       if q.channel = c then { q with discard := true } else q } ∧
        RepliesFirst h.tag .ok [] s u ∧
        ((s.channel c).state = .unused ∨ (s.channel c).state = .starting →
          u.zones = s.zones ∧ u.targets = s.targets ∧ u.bays = s.bays ∧ u.drives = s.drives ∧ u.sweep = s.sweep ∧
          u.link = (replied h.tag .ok [] s).link))

/-- CONFIGURE LUMINAIRE: the checks; the record written, with its open conditions ended where the zone changes and its dirty
mark by the new zone's target state; and nothing but that record and its place on the list where no condition was open. -/
def Obligations.ConfigureLuminaireWritesTheRecord : Prop :=
  ∀ (h : FrameHead) (p : LuminairePayload) (s : State), Taking s →
    (¬ (p.line.toNat ≤ 1 ∧ p.address.toNat ≤ 95 ∧ (p.zone.toNat ≤ 47 ∨ p.zone = 0xFF) ∧ 100 ≤ p.trim.toNat ∧
        p.trim.toNat ≤ 1000) → Completes (.configureLuminaire h p) s (replied h.tag .badValue [] s)) ∧
    (∀ (l : LineId) (a : Address) (zone : Option ZoneId), p.line.toNat = lineCode l → p.address.toNat = a.val →
      ((p.zone = 0xFF ∧ zone = none) ∨ ∃ z : ZoneId, p.zone.toNat = z.val ∧ zone = some z) →
      100 ≤ p.trim.toNat → p.trim.toNat ≤ 1000 →
      ∀ x, x = s.lum l a → ∀ moved, moved = (x.configured && x.zone != zone) →
        ∃ u, Completes (.configureLuminaire h p) s u ∧ RepliesFirst h.tag .ok [] s u ∧
          u.lum l a = { x with
            configured := true, zone := zone, trim := p.trim.toNat
            presence := if moved then .unknown else x.presence
            mismatch := if moved then false else x.mismatch
            dirty := (u.lum l a).dirty } ∧
          ((∃ z, zone = some z ∧ (s.target (zoneTarget z)).state = .active) → (u.lum l a).dirty = true) ∧
          ((∀ z, zone = some z → (s.target (zoneTarget z)).state ≠ .active) →
            (u.lum l a).dirty = false ∧ a ∉ (u.line l).list) ∧
          (moved = false ∨ (x.presence ≠ .missing ∧ x.mismatch = false) →
            (∀ b, b ≠ a → u.lum l b = s.lum l b ∧ (b ∈ (u.line l).list ↔ b ∈ (s.line l).list)) ∧
            (∀ m, m ≠ l → u.line m = s.line m) ∧ u.zones = s.zones ∧ u.targets = s.targets ∧
            u.link = (replied h.tag .ok [] s).link))

/-! ### Target states -/

/-- ENABLE is answered by the target state, and where it takes effect the target is ACTIVE and the REPLY stands first. -/
def Obligations.EnableAnswersByTargetState : Prop :=
  ∀ (h : FrameHead) (target : Byte) (s : State), Taking s →
    (63 < target.toNat → Completes (.enable h target) s (replied h.tag .badValue [] s)) ∧
    (∀ t : TargetId, t.val = target.toNat →
      ((s.target t).state = .unconfigured → Completes (.enable h target) s (replied h.tag .notConfigured [] s)) ∧
      ((s.target t).state = .active → Completes (.enable h target) s (replied h.tag .ok [] s)) ∧
      (∀ b, t = shadeTarget b → (s.target t).state = .dormant → (s.bay b).cfg.shadePresent = false →
        Completes (.enable h target) s (replied h.tag .notConfigured [] s)) ∧
      ((s.target t).state = .dormant → (∀ b, t = shadeTarget b → (s.bay b).cfg.shadePresent = true) →
        ∃ u, Completes (.enable h target) s u ∧ (u.target t).state = .active ∧ RepliesFirst h.tag .ok [] s u))

/-- ENABLE of a DORMANT zone whose ceiling channel can be read: the whole of its effect. -/
def Obligations.EnableBringsAZoneIntoService : Prop :=
  ∀ (h : FrameHead) (target : Byte) (z : ZoneId) (s : State), Taking s → target.toNat = z.val →
    (s.target (zoneTarget z)).state = .dormant → (s.target (zoneTarget z)).above = [] →
    (s.target (zoneTarget z)).baseValue = none → (s.zone z).cfg.ceilingSensor = true →
    (s.view (ceilingChannel z)).valid = true → (s.zone z).measureLost = false →
    ∀ u, u = markZone z (((replied h.tag .ok [] s).setTarget (zoneTarget z)
          { s.target (zoneTarget z) with state := .active }).setZone z
        { s.zone z with
          output := (s.zone z).cfg.fallback
          rampTarget := (s.zone z).cfg.fallback
          rampTimer := none
          rates := .perSecond (s.zone z).cfg.upRate (s.zone z).cfg.downRate
          copy := ⟨.base, .auto, 15, none, 0, false⟩
          settling := (s.drive (bayOf z)).state == .homing || (s.drive (bayOf z)).state == .moving ||
            (s.drive (bayOf z)).state == .verifying
          settleTimer := none
          readingTimer := if (s.zone z).cfg.readingInterval = 0 then none
            else some (1000 * (s.zone z).cfg.readingInterval)
          source := .direct }) →
      ((s.target (zoneTarget z)).watch = false → Completes (.enable h target) s u) ∧
      ((s.target (zoneTarget z)).watch = true →
        Completes (.enable h target) s (noticed (.targetChange (zoneTarget z) .base .auto 15 none none false) u))

/-- ENABLE of a DORMANT shade target whose drive is OFF: the base context carries the open stop, the glare state is CLEAR, and
the drive stays in IDLE at the open stop, energises with a free grant, or waits for one. -/
def Obligations.EnableBringsAShadeIntoService : Prop :=
  ∀ (h : FrameHead) (target : Byte) (b : BayId) (s : State), Taking s → target.toNat = 48 + b.val →
    (s.target (shadeTarget b)).state = .dormant → (s.bay b).cfg.shadePresent = true → (s.drive b).state = .off →
    ∃ u, Completes (.enable h target) s u ∧ RepliesFirst h.tag .ok [] s u ∧
      u.target (shadeTarget b) = { s.target (shadeTarget b) with state := .active,
                                                                 baseValue := some (s.bay b).cfg.openStop } ∧
      u.bay b = { s.bay b with glare := .clear, glareTimer := none, halted := false } ∧
      (u.drive b).desired = some (s.bay b).cfg.openStop ∧ (u.drive b).position = (s.drive b).position ∧
      (u.drive b).powerTimeout = false ∧
      ((s.drive b).position = some (s.bay b).cfg.openStop →
        (u.drive b).state = .idle ∧ u.grantQueue = s.grantQueue) ∧
      ((s.drive b).position ≠ some (s.bay b).cfg.openStop → grantsHeld s < 4 →
        (u.drive b).state = .energizing ∧ (u.drive b).grant = true ∧ (u.drive b).energiseTimer = some 400 ∧
          u.grantQueue = s.grantQueue) ∧
      ((s.drive b).position ≠ some (s.bay b).cfg.openStop → 4 ≤ grantsHeld s →
        (u.drive b).state = .waitPower ∧ (u.drive b).waitTimer = some 30000 ∧ u.grantQueue = s.grantQueue ++ [b])

/-- DISABLE of a zone target: the replies by target state, and the whole effect on an ACTIVE zone, with its records in order.
The zone being calibrated is ABANDONED and left out of its bay's freeze, where the sweep ends with it; that the sweep record
then keeps its restart used mark (`sweepOver`) is the model's reading (log 27). No other zone being calibrated is touched. -/
def Obligations.DisableTakesAZoneOutOfService : Prop :=
  ∀ (h : FrameHead) (target : Byte) (s : State), Taking s →
    (63 < target.toNat → Completes (.disable h target) s (replied h.tag .badValue [] s)) ∧
    (∀ t : TargetId, t.val = target.toNat →
      ((s.target t).state = .unconfigured → Completes (.disable h target) s (replied h.tag .notConfigured [] s)) ∧
      ((s.target t).state = .dormant → Completes (.disable h target) s (replied h.tag .ok [] s)) ∧
      ((s.target t).state = .active →
        ∃ u, Completes (.disable h target) s u ∧ (u.target t).state = .dormant ∧ RepliesFirst h.tag .ok [] s u)) ∧
    (∀ z : ZoneId, z.val = target.toNat → (s.target (zoneTarget z)).state = .active →
      ∀ r, r = s.target (zoneTarget z) →
      ∀ removed, removed = (s.pendingList.filter fun e => e.target = zoneTarget z).map (fun e =>
            Record.requestState e.identity (zoneTarget z) e.level .discarded) ++
          r.above.filterMap (fun c => c.identity.map fun i => .requestState i (zoneTarget z) c.level .discarded) →
      ∀ unlocked, (r.locked = false ∧ unlocked = []) ∨
          (r.locked = true ∧ ∀ f, r.fault = some f →
            unlocked = [Record.faultCleared (zoneTarget z) .disable f.firstClass f.superseded]) →
      ∀ changed, changed = (if r.above ≠ [] ∧ r.watch = true then
            [Record.targetChange (zoneTarget z) .base .auto 15 r.baseValue none false] else []) →
      ∀ u, u = (((replied h.tag .ok [] s).setTarget (zoneTarget z) { r with
              state := .dormant, above := [], window := false, fault := if r.locked then none else r.fault }).setZone z
            { s.zone z with rampTarget := (s.zone z).output, rampTimer := none, settling := false, settleTimer := none,
                            readingTimer := none, source := .none }).setPendingList
          (s.pendingList.filter fun e => e.target ≠ zoneTarget z) →
      ((∀ y, s.sweep.current = some y →
          y ≠ z ∧ ∃ c ∈ (s.target (zoneTarget y)).above, c.origin = .calibrate) →
        Completes (.disable h target) s (notedAll (removed ++ unlocked ++ changed) u)) ∧
      (∀ cause, s.sweep.current = some z → EndsWith s z cause →
        ∀ counts, counts = { s.sweep.counts with abandoned := s.sweep.counts.abandoned + 1 } →
        Completes (.disable h target) s
          (notedAll (removed ++ unlocked ++ changed ++
              [.sweepProgress ⟨z, .abandoned, none, s.sweep.restartUsed, s.sweep.m0, s.sweep.m1, none, none⟩,
                .sweepEnd cause s.sweep.first s.sweep.last counts])
            ((u.setBay (bayOf z) { s.bay (bayOf z) with frozen := false }).setSweep (sweepOver s.sweep counts)))))

/-- DISABLE of a shade target, with no zone being calibrated: what the drive does by its state, and the glare state. -/
def Obligations.DisableTakesAShadeOutOfService : Prop :=
  ∀ (h : FrameHead) (target : Byte) (b : BayId) (s : State), Taking s → target.toNat = 48 + b.val →
    (s.target (shadeTarget b)).state = .active → NoZoneCalibrating s →
    ∃ u, Completes (.disable h target) s u ∧ (u.target (shadeTarget b)).state = .dormant ∧
      (u.target (shadeTarget b)).above = [] ∧ (u.bay b).glareTimer = none ∧ (u.bay b).halted = (s.bay b).halted ∧
      ((s.bay b).glare = .glarePending ∨ (s.bay b).glare = .clear → (u.bay b).glare = .clear) ∧
      ((s.bay b).glare = .clearPending ∨ (s.bay b).glare = .glare → (u.bay b).glare = .glare) ∧
      ((s.drive b).state = .homing ∨ (s.drive b).state = .moving ∨ (s.drive b).state = .verifying →
        u.drive b = { s.drive b with desired := none, pendingStop := .off }) ∧
      ((s.drive b).state = .waitPower →
        (u.drive b).state = .off ∧ b ∉ u.grantQueue ∧ (u.drive b).waitTimer = none) ∧
      ((s.drive b).state = .energizing ∨ (s.drive b).state = .holding → b ∉ s.grantQueue →
        (u.drive b).state = .off ∧ (u.drive b).grant = false ∧ (u.drive b).energiseTimer = none ∧
          (u.drive b).holdTimer = none ∧
          ∀ first rest, s.grantQueue = first :: rest →
            (u.drive first).state = .energizing ∧ (u.drive first).grant = true ∧ u.grantQueue = rest) ∧
      ((s.drive b).state = .idle ∨ (s.drive b).state = .failed → (u.drive b).state = .off) ∧
      ((s.drive b).state ≠ .homing → (s.drive b).state ≠ .moving → (s.drive b).state ≠ .verifying →
        (u.drive b).desired = none ∧
          ((s.drive b).positionRule = false → (u.drive b).position = (s.drive b).position))

/-! ### The tables that the host writes -/

/-- SET RESPONSE writes one entry of the Response Table, SET LINK the almost-full threshold and the audit interval, and WATCH a
target's WATCH mark in every target state; each changes nothing else. -/
def Obligations.TableCommandsWriteTheirValues : Prop :=
  ∀ (h : FrameHead) (p : ResponsePayload) (a b : Byte) (s : State), Taking s →
    (¬ (1 ≤ p.cls.toNat ∧ p.cls.toNat ≤ 12 ∧ 1 ≤ p.action.toNat ∧ p.action.toNat ≤ 3 ∧ IsFlag p.alarm) →
      Completes (.setResponse h p) s (replied h.tag .badValue [] s)) ∧
    (∀ (c : FaultClass) (action : FaultAction), p.cls.toNat = c.code →
      (p.action.toNat = 1 ∧ action = .report ∨ p.action.toNat = 2 ∧ action = .fallback ∨
        p.action.toNat = 3 ∧ action = .lock) → IsFlag p.alarm →
      Completes (.setResponse h p) s
        { replied h.tag .ok [] s with
          responses := s.responses.set c.index.val ⟨action, p.alarm == 1⟩ c.index.isLt }) ∧
    (16 ≤ a.toNat → a.toNat ≤ 63 → 1 ≤ b.toNat → b.toNat ≤ 60 →
      Completes (.setLink h a b) s
        ((replied h.tag .ok [] s).setLink
          { (replied h.tag .ok [] s).link with threshold := a.toNat, auditInterval := b.toNat })) ∧
    (¬ (16 ≤ a.toNat ∧ a.toNat ≤ 63 ∧ 1 ≤ b.toNat ∧ b.toNat ≤ 60) →
      Completes (.setLink h a b) s (replied h.tag .badValue [] s)) ∧
    (∀ t : TargetId, a.toNat = t.val → IsFlag b →
      Completes (.watch h a b) s ((replied h.tag .ok [] s).setTarget t { s.target t with watch := b == 1 })) ∧
    (63 < a.toNat ∨ ¬ IsFlag b → Completes (.watch h a b) s (replied h.tag .badValue [] s))

/-! ### Requests -/

/-- A REQUEST that fails a check is answered by the first check it fails, in the order of R73, and changes nothing else. -/
def Obligations.RequestIsRefusedByItsFirstFailedCheck : Prop :=
  ∀ (h : FrameHead) (p : RequestPayload) (s : State), Taking s →
    (63 < p.target.toNat → Completes (.request h p) s (replied h.tag .badValue [] s)) ∧
    (∀ t : TargetId, t.val = p.target.toNat →
      ((s.target t).state ≠ .active → Completes (.request h p) s (replied h.tag .notActive [] s)) ∧
      ((s.target t).state = .active →
        (¬ RequestLevel p.level.toNat → Completes (.request h p) s (replied h.tag .badLevel [] s)) ∧
        (RequestLevel p.level.toNat →
          (¬ p.FieldsAllowed → Completes (.request h p) s (replied h.tag .badValue [] s)) ∧
          (p.FieldsAllowed →
            (p.identity = 0 ∨ IdentityTaken s p.identity.toNat →
              Completes (.request h p) s (replied h.tag .duplicate [] s)) ∧
            (p.identity ≠ 0 → ¬ IdentityTaken s p.identity.toNat → (s.target t).locked = true → p.level ≠ 0 →
              Completes (.request h p) s (replied h.tag .locked [] s))))))

/-- A REQUEST that passes its checks and cannot be placed now pends, behind every entry of lower or equal level; a full list
refuses it; nothing else changes. -/
def Obligations.RequestPends : Prop :=
  ∀ (h : FrameHead) (p : RequestPayload) (t : TargetId) (kind : Kind) (s : State), Taking s → RequestPasses p t s →
    p.kind.toNat = kind.code →
    ((s.active t).level < p.level.toNat ∨ (p.level.toNat < (s.active t).level ∧
      (4 ≤ (s.target t).above.length ∨ ((s.target t).window = true ∧ p.level ≠ 0)))) →
    (32 ≤ s.pendingList.length → Completes (.request h p) s (replied h.tag .pendingFull [] s)) ∧
    (s.pendingList.length < 32 → ∃ before after, s.pendingList = before ++ after ∧
      (∀ e ∈ before, e.level ≤ p.level.toNat) ∧ (∀ e, after.head? = some e → p.level.toNat < e.level) ∧
      Completes (.request h p) s
        { replied h.tag .pending [] s with
          nextArrival := s.nextArrival + 1
          pendingList := before ++
            { target := t, level := p.level.toNat, kind := kind, value := p.value.toNat, fade := p.fade.toNat,
              hold := if p.hold = 0 then none else some p.hold.toNat, identity := p.identity.toNat,
              waitLimit := p.waitLimit.toNat,
              wait := if p.waitLimit = 0 then none else some (1000 * p.waitLimit.toNat),
              arrival := s.nextArrival } :: after })

/-- A REQUEST for a zone that is placed at once, in the place of the active context or above a base, HOST, fault or CALIBRATE
context: the stack, the zone's copy of the context, its output or its ramp, and the records in order, DISPLACED before TARGET
CHANGE. A push over a fault context closes its window; a push over the CALIBRATE context takes it off and leaves the zone
ABANDONED, said here where the sweep ends with it; that the sweep record then keeps its restart used mark (`sweepOver`) is the
model's reading (log 27). -/
def Obligations.RequestFixesAZone : Prop :=
  ∀ (h : FrameHead) (p : RequestPayload) (z : ZoneId) (kind : Kind) (s : State), Taking s →
    RequestPasses p (zoneTarget z) s → p.kind.toNat = kind.code →
    (kind = .fix ∨ (s.zone z).source ≠ .none ∨ (s.zone z).measureLost = true) →
    ∀ r, r = s.target (zoneTarget z) → ∀ counts, counts = { s.sweep.counts with abandoned := s.sweep.counts.abandoned + 1 } →
    ∀ above window displaced ended,
      (NoZoneCalibrating s ∧ ended = [] ∧ r.active.level = p.level.toNat ∧ window = r.window ∧
          (∃ old rest, r.above = old :: rest ∧ above = p.contextOf kind :: rest ∧
            displaced = old.identity.toList.map fun i => Record.requestState i (zoneTarget z) old.level .displaced)) ∨
        (p.level.toNat < r.active.level ∧ r.above.length < 4 ∧ (r.window = false ∨ p.level = 0) ∧ displaced = [] ∧
          ((NoZoneCalibrating s ∧ ended = [] ∧ above = p.contextOf kind :: r.above ∧
              ((r.active.origin = .base ∧ window = r.window) ∨ (r.active.origin = .host ∧ window = r.window) ∨
                (r.active.origin = .fault ∧ window = false ∧ NoEntries s (zoneTarget z)))) ∨
            (∃ v rest cause, Calibrating s z v rest ∧ EndsWith s z cause ∧ NoEntries s (zoneTarget z) ∧
              window = r.window ∧ above = p.contextOf kind :: rest ∧
              ended = [.sweepProgress ⟨z, .abandoned, none, s.sweep.restartUsed, s.sweep.m0, s.sweep.m1, none, none⟩,
                .sweepEnd cause s.sweep.first s.sweep.last counts]))) →
    ∃ u, Completes (.request h p) s u ∧ RepliesFirst h.tag .accepted [] s u ∧
      u.target (zoneTarget z) = { r with above := above, window := window } ∧
      u.link = (notedAll (displaced ++ changeNotice (zoneTarget z) { r with above := above, window := window } ++ ended)
        (replied h.tag .accepted [] s)).link ∧
      (∀ copy, copy = ⟨.host, kind, p.level.toNat, some p.value.toNat, p.fade.toNat, false⟩ →
        (kind = .fix → p.fade = 0 → u.zone z = { s.zone z with
          output := p.value.toNat, rampTarget := p.value.toNat, rampTimer := none, rates := .immediate, copy := copy }) ∧
        (kind = .fix → p.fade ≠ 0 → u.zone z = { s.zone z with
          rampTarget := p.value.toNat, rates := .perSecond p.fade.toNat p.fade.toNat, copy := copy
          rampTimer := if (s.zone z).output = p.value.toNat then none else some ((s.zone z).rampTimer.getD 100) }) ∧
        (kind ≠ .fix → ∀ upper, (kind = .cap ∧ upper = min (s.zone z).cfg.maxLevel p.value.toNat) ∨
            (kind ≠ .cap ∧ upper = (s.zone z).cfg.maxLevel) →
          ∀ goal, goal = min (max (s.zone z).rampTarget (s.zone z).cfg.minLevel) upper →
          u.zone z = { s.zone z with
            rampTarget := goal, rates := .perSecond (s.zone z).cfg.upRate (s.zone z).cfg.downRate, copy := copy
            rampTimer := if (s.zone z).output = goal then none else some ((s.zone z).rampTimer.getD 100) })) ∧
      (∀ t, t ≠ zoneTarget z → u.target t = s.target t) ∧ (∀ y, y ≠ z → u.zone y = s.zone y) ∧
      u.pendingList = s.pendingList ∧ u.drives = s.drives ∧ (∀ b, b ≠ bayOf z → u.bay b = s.bay b) ∧
      (ended = [] → u.sweep = s.sweep ∧ u.bay (bayOf z) = s.bay (bayOf z)) ∧
      (ended ≠ [] → u.sweep = sweepOver s.sweep counts ∧
        u.bay (bayOf z) = { s.bay (bayOf z) with frozen := false })

/-- A stop requested for a shade above its base context, while its drive stands in IDLE away from that stop: the drive
energises with a free grant and else waits for power; a watched target is reported once. -/
def Obligations.RequestMovesAnIdleShade : Prop :=
  ∀ (h : FrameHead) (p : RequestPayload) (b : BayId) (s : State), Taking s → RequestPasses p (shadeTarget b) s →
    (s.target (shadeTarget b)).above = [] → (s.target (shadeTarget b)).window = false → NoZoneCalibrating s →
    (s.drive b).state = .idle → (s.drive b).position ≠ some p.value.toNat →
    (s.drive b).desired ≠ some p.value.toNat →
    ∃ u, Completes (.request h p) s u ∧ RepliesFirst h.tag .accepted [] s u ∧
      u.target (shadeTarget b) = { s.target (shadeTarget b) with above := [p.contextOf .fix] } ∧
      (u.drive b).desired = some p.value.toNat ∧ (u.bay b).halted = false ∧
      (grantsHeld s < 4 → (u.drive b).state = .energizing ∧ (u.drive b).grant = true ∧
        (u.drive b).energiseTimer = some 400 ∧ u.grantQueue = s.grantQueue) ∧
      (4 ≤ grantsHeld s → (u.drive b).state = .waitPower ∧ (u.drive b).waitTimer = some 30000 ∧
        u.grantQueue = s.grantQueue ++ [b]) ∧
      ((s.target (shadeTarget b)).watch = true → s.link.reports.length + 2 ≤ 64 →
        u.link.reports = s.link.reports ++ [.reply h.tag .accepted s.link.flags [],
          .targetChange (shadeTarget b) .host .fix p.level.toNat (some p.value.toNat) (some p.identity.toNat) false])

/-- RELEASE of an identity that stands nowhere, of one on the Pending List, and of one on a stack, which leaves that stack where
no entry waits for the target: a buried context goes with no other effect, and the context that the removal of an active one
exposes is handed on, with its TARGET CHANGE behind the REPLY. An unlocked fault context that is exposed opens its window. -/
def Obligations.ReleaseRemovesTheIdentity : Prop :=
  ∀ (h : FrameHead) (identity : Half) (s : State), Taking s →
    (¬ IdentityTaken s identity.toNat → Completes (.release h identity) s (replied h.tag .notFound [] s)) ∧
    ((∀ t, ∀ c ∈ (s.target t).above, c.identity ≠ some identity.toNat) →
      (∃ e ∈ s.pendingList, e.identity = identity.toNat) →
      Completes (.release h identity) s
        ((replied h.tag .ok [] s).setPendingList (s.pendingList.filter fun e => e.identity ≠ identity.toNat))) ∧
    (∀ t, (∃ c ∈ (s.target t).above, c.identity = some identity.toNat) →
      (∀ t', t' ≠ t → ∀ c ∈ (s.target t').above, c.identity ≠ some identity.toNat) →
      (∃ u, Completes (.release h identity) s u ∧ RepliesFirst h.tag .ok [] s u) ∧
      (NoEntries s t → NoZoneCalibrating s →
        ∀ above, above = (s.target t).above.filter (fun c => c.identity ≠ some identity.toNat) →
        ((s.active t).identity ≠ some identity.toNat →
          Completes (.release h identity) s
            ((replied h.tag .ok [] s).setTarget t { s.target t with above := above })) ∧
        ((s.active t).identity = some identity.toNat → (s.active t).origin = .host →
          ∀ window r, r = { s.target t with above := above, window := window } →
            (window = true ↔ (s.target t).window = true ∨ r.active.origin = .fault) → ExposedQuietly s t r →
          ∃ u, Completes (.release h identity) s u ∧ HandedOn s u t r ∧
            u.link = (notedAll (changeNotice t r) (replied h.tag .ok [] s)).link)))

/-- The hold timer and the wait timer of a request: a wait expiry takes the entry off the Pending List with EXPIRED and changes
no stack; a hold expiry takes the context off its stack with ENDED: a buried context with no other effect where no entry waits
for the target, and an active one with the context that it exposes handed on, its TARGET CHANGE behind the ENDED. An unlocked
fault context that is exposed opens its window. -/
def Obligations.HoldAndWaitExpiriesEndARequest : Prop :=
  ∀ (identity : Half) (s : State), Operating s →
    (∀ before e after, s.pendingList = before ++ e :: after → e.identity = identity.toNat → e.wait.isSome = true →
      (∀ x ∈ before ++ after, x.identity ≠ identity.toNat) →
      Completes (.waitExpiry identity) s
        (noticed (.requestState identity.toNat e.target e.level .expired) (s.setPendingList (before ++ after)))) ∧
    (∀ t before c after, (s.target t).above = before ++ c :: after → c.identity = some identity.toNat →
      c.hold.isSome = true → (∀ x ∈ before ++ after, x.identity ≠ some identity.toNat) →
      (∀ t', t' ≠ t → ∀ x ∈ (s.target t').above, x.identity ≠ some identity.toNat) →
      ∀ ended, ended = Record.requestState identity.toNat t c.level .ended →
      (∃ u, Completes (.holdExpiry identity) s u ∧ (s.link.reports.length < 64 →
        (s.link.reports ++ [ended]) <+: u.link.reports)) ∧
      (NoEntries s t → NoZoneCalibrating s →
        (before ≠ [] → Completes (.holdExpiry identity) s
          (noticed ended (s.setTarget t { s.target t with above := before ++ after }))) ∧
        (before = [] → c.origin = .host →
          ∀ window r, r = { s.target t with above := after, window := window } →
            (window = true ↔ (s.target t).window = true ∨ r.active.origin = .fault) → ExposedQuietly s t r →
          ∃ u, Completes (.holdExpiry identity) s u ∧ HandedOn s u t r ∧
            u.link = (notedAll (ended :: changeNotice t r) s).link)))

/-! ### Faults and sweeps -/

/-- A raise: the record it leaves where there was none and where there was one, with the open set and the latched mark; its
outcome by the first row of R103 that fits; and the FAULT notice, which carries that outcome and goes before what the Arbiter
does about it. -/
def Obligations.RaiseIsRecordedAndJudged : Prop :=
  ∀ (t : TargetId) (r : Raise) (s : State),
    ((s.target t).fault = none → (r.cls.selfClearing = true →
        recordRaise s t r = ⟨r.cls, r.cls, r.source, s.seconds, contextAtFault s t, r.completion, r.detail1, r.detail2,
          [⟨r.cls, r.source⟩], false, 0, false⟩) ∧
      (r.cls.selfClearing = false →
        recordRaise s t r = ⟨r.cls, r.cls, r.source, s.seconds, contextAtFault s t, r.completion, r.detail1, r.detail2,
          [], true, 0, false⟩)) ∧
    (∀ f, (s.target t).fault = some f → ∃ g, recordRaise s t r = g ∧ g.firstClass = f.firstClass ∧ g.latestClass = r.cls ∧
      g.source = r.source ∧ g.completion = r.completion ∧ g.detail1 = r.detail1 ∧ g.detail2 = r.detail2 ∧
      g.superseded = min 255 (f.superseded + 1) ∧ g.stamp = f.stamp ∧ g.context = f.context ∧ g.lockMark = f.lockMark ∧
      (r.cls.selfClearing = false → g.latched = true ∧ g.openSet = f.openSet) ∧
      (r.cls.selfClearing = true →
        (⟨r.cls, r.source⟩ ∈ f.openSet → g.openSet = f.openSet ∧ g.latched = f.latched) ∧
        (⟨r.cls, r.source⟩ ∉ f.openSet → f.openSet.length < 255 →
          g.openSet = f.openSet ++ [⟨r.cls, r.source⟩] ∧ g.latched = f.latched) ∧
        (⟨r.cls, r.source⟩ ∉ f.openSet → 255 ≤ f.openSet.length → g.openSet = f.openSet ∧ g.latched = true))) ∧
    ((s.target t).state ≠ .active → contextAtFault s t = none ∧ raiseOutcome s t r.cls = .recorded) ∧
    ((s.target t).state = .active →
      contextAtFault s t = some ⟨(s.active t).origin, (s.active t).kind, (s.active t).level⟩ ∧
      ((s.target t).locked = true → raiseOutcome s t r.cls = .recorded) ∧
      ((s.target t).locked = false → (s.target t).window = true → raiseOutcome s t r.cls = .lock) ∧
      ((s.target t).locked = false → (s.target t).window = false →
        ((s.response r.cls).action = .lock → raiseOutcome s t r.cls = .lock) ∧
        ((s.response r.cls).action = .report → raiseOutcome s t r.cls = .recorded) ∧
        ((s.response r.cls).action = .fallback →
          ((∃ c ∈ (s.target t).above, c.origin = .fault) → raiseOutcome s t r.cls = .recorded) ∧
          ((∀ c ∈ (s.target t).above, c.origin ≠ .fault) → raiseOutcome s t r.cls = .contextInserted)))) ∧
    (∀ f, f = { recordRaise s t r with
        lockMark := (recordRaise s t r).lockMark || raiseOutcome s t r.cls == .lock } →
      ∀ n : FaultNotice, n =
        { target := some t, cls := r.cls, source := r.source, completion := r.completion, detail1 := r.detail1,
          detail2 := r.detail2, outcome := raiseOutcome s t r.cls, created := (s.target t).fault.isNone,
          locked := f.lockMark, superseded := f.superseded, firstClass := f.firstClass, stamp := s.seconds } →
      ∀ u, u = routeFault n (s.setTarget t { s.target t with fault := some f }) →
      ∀ fin, (raiseOutcome s t r.cls = .recorded → raiseFault fin t r s = u) ∧
        (raiseOutcome s t r.cls = .contextInserted → raiseFault fin t r s = fin t (s.active t) (insertionClaim t u)) ∧
        (raiseOutcome s t r.cls = .lock → raiseFault fin t r s = fin t (s.active t) (lockTarget t u)))

/-- CLEAR FAULT: the replies, and the whole of the effect on a zone's record that has no fault context. -/
def Obligations.ClearFaultDeletesTheRecord : Prop :=
  ∀ (h : FrameHead) (target : Byte) (s : State), Taking s →
    (63 < target.toNat → Completes (.clearFault h target) s (replied h.tag .badValue [] s)) ∧
    (∀ t : TargetId, t.val = target.toNat →
      ((s.target t).fault = none → Completes (.clearFault h target) s (replied h.tag .noFault [] s)) ∧
      (∀ f, (s.target t).fault = some f →
        (∃ u, Completes (.clearFault h target) s u ∧ RepliesFirst h.tag .ok [] s u ∧
          (s.link.reports.length + 2 ≤ 64 →
            (s.link.reports ++ [.reply h.tag .ok s.link.flags [],
              .faultCleared t .command f.firstClass f.superseded]) <+: u.link.reports)) ∧
        ((∀ c ∈ (s.target t).above, c.origin ≠ .fault) → NoZoneCalibrating s →
          (∀ b, t = shadeTarget b → (s.drive b).state ≠ .failed) →
          Completes (.clearFault h target) s
            (noticed (.faultCleared t .command f.firstClass f.superseded)
              ((replied h.tag .ok [] s).setTarget t { s.target t with fault := none })))))

/-- CALIBRATE: the checks in order; a range in which no zone can be calibrated is skipped within the command, one SWEEP PROGRESS
for each zone with its reason (restart used shows no, and the mark of the record is kept: log 27), and then SWEEP END; and the
first zone of a range that can be calibrated is taken dark at once. -/
def Obligations.CalibrateIsCheckedAndStarted : Prop :=
  ∀ (h : FrameHead) (first last settle : Byte) (s : State), Taking s →
    (¬ (first.toNat ≤ 47 ∧ last.toNat ≤ 47 ∧ 2 ≤ settle.toNat ∧ settle.toNat ≤ 60 ∧ first.toNat ≤ last.toNat) →
      Completes (.calibrate h first last settle) s (replied h.tag .badValue [] s)) ∧
    (first.toNat ≤ 47 → last.toNat ≤ 47 → 2 ≤ settle.toNat → settle.toNat ≤ 60 → first.toNat ≤ last.toNat →
      (s.sweep.state ≠ .idle → Completes (.calibrate h first last settle) s (replied h.tag .busy [] s)) ∧
      (s.sweep.state = .idle → ∀ z : ZoneId, z.val = first.toNat → ∀ y : ZoneId, y.val = last.toNat →
        (∃ u, Completes (.calibrate h first last settle) s u ∧ RepliesFirst h.tag .ok [] s u) ∧
        (∀ zones : List ZoneId, zones.map (fun x => x.val) = List.range' z.val (y.val + 1 - z.val) →
          ∀ reason : ZoneId → SkipReason, (∀ x ∈ zones,
            (reason x = .notActive ∧
                ((s.target (zoneTarget x)).state ≠ .active ∨ (s.target (zoneTarget x)).locked = true)) ∨
              ((s.target (zoneTarget x)).state = .active ∧ (s.target (zoneTarget x)).locked = false ∧
                ((reason x = .noSensor ∧ (s.zone x).source ≠ .direct) ∨
                  (reason x = .overridden ∧ (s.zone x).source = .direct ∧ (s.active (zoneTarget x)).level < 12)))) →
          ∀ counts : SweepCounts, counts = ⟨0, 0, zones.length, 0, 0⟩ →
          Completes (.calibrate h first last settle) s
            (notedAll
              (zones.map (fun x => .sweepProgress ⟨x, .skipped, some (reason x), false, none, none, none, none⟩) ++
                [.sweepEnd .complete z y counts])
              ((replied h.tag .ok [] s).setSweep
                (sweepOver { s.sweep with first := z, last := y, settle := settle.toNat } counts)))) ∧
        ((s.target (zoneTarget z)).state = .active → (s.target (zoneTarget z)).locked = false →
          (s.zone z).source = .direct → 12 < (s.active (zoneTarget z)).level →
          ∃ u, Completes (.calibrate h first last settle) s u ∧
            u.sweep = { s.sweep with state := .running, first := z, last := y, settle := settle.toNat, current := some z,
                                     phase := .darkSettle, timer := some (1000 * settle.toNat), restartUsed := false,
                                     ceilingValid := true, latestSky := none, m0 := none, s0 := none, m1 := none,
                                     s1 := none, counts := ⟨0, 0, 0, 0, 0⟩ } ∧
            u.target (zoneTarget z) = { s.target (zoneTarget z) with
              above := ⟨.calibrate, 12, .fix, some 0, 0, none, none, false⟩ :: (s.target (zoneTarget z)).above } ∧
            (u.zone z).output = 0 ∧ (u.zone z).rampTarget = 0 ∧ (u.zone z).rampTimer = none ∧
            (u.zone z).rates = .immediate ∧ (u.bay (bayOf z)).frozen = true ∧
            (u.bay (bayOf z)).glareTimer = none)))

/-- STOP with condition SWEEP_NOW or SWEEP_AFTER_ZONE: the nothing-running flag, and the sweep record. -/
def Obligations.StopEndsTheSweep : Prop :=
  ∀ (h : FrameHead) (s : State), Taking s →
    (s.sweep.state = .idle → Completes (.stopSweepNow h) s (replied h.tag .ok [1] s) ∧
      Completes (.stopSweepAfterZone h) s (replied h.tag .ok [1] s)) ∧
    (s.sweep.state ≠ .idle →
      (∃ u, Completes (.stopSweepNow h) s u ∧ RepliesFirst h.tag .ok [0] s u ∧ u.sweep.state = .idle ∧
        u.sweep.current = none ∧ u.sweep.phase = .none ∧ u.sweep.timer = none ∧ u.sweep.m0 = none ∧
        u.sweep.m1 = none)) ∧
    (s.sweep.state = .running → Completes (.stopSweepAfterZone h) s
      ((replied h.tag .ok [0] s).setSweep { s.sweep with state := .stopping })) ∧
    (s.sweep.state = .stopping → Completes (.stopSweepAfterZone h) s (replied h.tag .ok [0] s))

/-- The phase timer expires: DARK_SETTLE passes to DARK_READ and LIGHT_SETTLE to LIGHT_READ while the ceiling channel is
VALID, and a read phase that begins without it is disturbed: the zone starts again from DARK once. -/
def Obligations.PhaseTimerBeginsTheReading : Prop :=
  ∀ (z : ZoneId) (s : State), Operating s → s.sweep.current = some z → s.sweep.timer.isSome = true →
    (s.sweep.ceilingValid = true →
      (s.sweep.phase = .darkSettle →
        Completes .phaseTimerExpiry s (s.setSweep { s.sweep with phase := .darkRead, timer := none })) ∧
      (s.sweep.phase = .lightSettle →
        Completes .phaseTimerExpiry s (s.setSweep { s.sweep with phase := .lightRead, timer := none }))) ∧
    (s.sweep.ceilingValid = false → s.sweep.phase = .darkSettle → s.sweep.restartUsed = false →
      (∀ c ∈ (s.target (zoneTarget z)).above, c.value ≠ some 1000) →
      Completes .phaseTimerExpiry s
        (s.setSweep { s.sweep with phase := .darkSettle, timer := some (1000 * s.sweep.settle), restartUsed := true,
                                   m0 := none, s0 := none, m1 := none, s1 := none }))

/-- A publication of the current zone's ceiling channel. In a settle phase it is no reading. In DARK_READ it gives M0 and S0,
and the CALIBRATE context, the zone's output and its ramp target go to 1000 at once. In LIGHT_READ the sky check comes first: a
first disturbance takes the context and the output back to 0 and restarts the zone, a second ends it DISTURBED. Else a gain of
20 to 10000 writes the calibration record and ends the zone DONE, and any other gain ends it FAILED, with the calibration record
as it was and CALIBRATION_IMPLAUSIBLE recorded and noticed. A zone that ends has its context popped, what that exposes handed
on, its bay unfrozen, its result counted and noticed; said here where the sweep ends with it; that the sweep record then keeps
its restart used mark (`sweepOver`) is the model's reading (log 27). -/
def Obligations.ReadingsDecideTheZone : Prop :=
  ∀ (z : ZoneId) (v : Nat) (s : State), s.sweep.current = some z →
    (s.sweep.phase = .darkSettle ∨ s.sweep.phase = .lightSettle → seqCeiling finish z v s = s) ∧
    (s.sweep.phase = .darkRead → ∀ rest, Calibrating s z 0 rest →
      ∃ u, seqCeiling finish z v s = u ∧ CalibrateValueTaken s u z 1000 rest ∧
        u.sweep = { s.sweep with m0 := some v, s0 := s.sweep.latestSky, phase := .lightSettle,
                                 timer := some (1000 * s.sweep.settle) }) ∧
    (∀ m0 rest, s.sweep.phase = .lightRead → s.sweep.m0 = some m0 → Calibrating s z 1000 rest →
      ∀ disturbed, (disturbed = true ↔
        ∃ a b, s.sweep.s0 = some a ∧ s.sweep.latestSky = some b ∧ (a < 4 * (b - a) ∨ a < 4 * (a - b))) →
      (disturbed = true → s.sweep.restartUsed = false →
        ∃ u, seqCeiling finish z v s = u ∧ CalibrateValueTaken s u z 0 rest ∧
          u.sweep = { s.sweep with restartUsed := true, phase := .darkSettle, timer := some (1000 * s.sweep.settle),
                                   m0 := none, s0 := none, m1 := none, s1 := none }) ∧
      (∀ r, r = { s.target (zoneTarget z) with above := rest } → ExposedQuietly s (zoneTarget z) r →
        (r.active.origin = .fault → r.window = true) → NoEntries s (zoneTarget z) →
        ∀ n cause, n = s.sweep.counts → EndsWith s z cause →
        (disturbed = true → s.sweep.restartUsed = true → ∀ counts, counts = { n with disturbed := n.disturbed + 1 } →
          ∃ u, seqCeiling finish z v s = u ∧ ZoneAndSweepEnded s u z r counts ∧ (u.zone z).cal = (s.zone z).cal ∧
            u.link = (notedAll (changeNotice (zoneTarget z) r ++
              [.sweepProgress ⟨z, .disturbed, none, true, some m0, some v, none, none⟩,
                .sweepEnd cause s.sweep.first s.sweep.last counts]) s).link) ∧
        (disturbed = false → m0 + 20 ≤ v → v ≤ m0 + 10000 → (s.zone z).source = .direct →
          (s.zone z).cfg.ceilingSensor = true → (s.view (ceilingChannel z)).valid = true →
          ∀ df, ((s.sweep.s0 = none ∨ s.sweep.s0 = some 0) ∧ df = none ∨
            (∃ a, s.sweep.s0 = some a ∧ 0 < a ∧ df = some (min 1000 (m0 * 1000 / a)))) →
          ∀ counts, counts = { n with done := n.done + 1 } →
          ∃ u, seqCeiling finish z v s = u ∧ ZoneAndSweepEnded s u z r counts ∧
            (u.zone z).cal = some ⟨v - m0, df, s.seconds⟩ ∧
            u.link = (notedAll (changeNotice (zoneTarget z) r ++
              [.sweepProgress ⟨z, .done, none, s.sweep.restartUsed, some m0, some v, some (v - m0), df⟩,
                .sweepEnd cause s.sweep.first s.sweep.last counts]) s).link) ∧
        (disturbed = false → v < m0 + 20 ∨ m0 + 10000 < v → r.window = false →
          s.response .calibrationImplausible = ⟨.report, false⟩ → ∀ counts, counts = { n with failed := n.failed + 1 } →
          ∃ u f notice, seqCeiling finish z v s = u ∧ ZoneAndSweepEnded s u z { r with fault := some f } counts ∧
            (u.zone z).cal = (s.zone z).cal ∧ f.latestClass = .calibrationImplausible ∧
            f.source = .channel (ceilingChannel z) ∧ f.completion = .notApplicable ∧ f.detail1 = m0 ∧ f.detail2 = v ∧
            f.latched = true ∧ (r.fault = none → f.firstClass = .calibrationImplausible ∧
              f.context = some ⟨r.active.origin, r.active.kind, r.active.level⟩) ∧
            notice.target = some (zoneTarget z) ∧ notice.cls = .calibrationImplausible ∧
            notice.source = .channel (ceilingChannel z) ∧ notice.detail1 = m0 ∧ notice.detail2 = v ∧
            notice.outcome = .recorded ∧ notice.stamp = s.seconds ∧
            u.link = (notedAll (changeNotice (zoneTarget z) r ++ [.fault notice,
              .sweepProgress ⟨z, .failed, none, s.sweep.restartUsed, some m0, some v, none, none⟩,
              .sweepEnd cause s.sweep.first s.sweep.last counts]) s).link)))

/-! ### Shades -/

/-- STOP with condition SHADES_NOW: every bay with a shade present receives its halted mark, and its drive acts by its state. -/
def Obligations.StopShadesHaltsEveryFittedBay : Prop :=
  ∀ (h : FrameHead) (s : State), Taking s →
    ∃ u, Completes (.stopShadesNow h) s u ∧ u.link = (replied h.tag .ok [0] s).link ∧ u.zones = s.zones ∧
      u.targets = s.targets ∧ ∀ b,
      ((s.bay b).cfg.shadePresent = false → u.bay b = s.bay b ∧ u.drive b = s.drive b) ∧
      ((s.bay b).cfg.shadePresent = true →
        u.bay b = { s.bay b with halted := true } ∧
        ((s.drive b).state = .homing ∨ (s.drive b).state = .moving ∨ (s.drive b).state = .verifying →
          u.drive b = { s.drive b with
            pendingStop := if (s.drive b).pendingStop = .off then .off else .halt }) ∧
        ((s.drive b).state = .waitPower →
          (u.drive b).state = .idle ∧ (u.drive b).waitTimer = none ∧ (u.drive b).position = (s.drive b).position ∧
            b ∉ u.grantQueue) ∧
        ((s.drive b).state = .energizing ∨ (s.drive b).state = .idle ∨ (s.drive b).state = .holding ∨
            (s.drive b).state = .failed ∨ (s.drive b).state = .off → u.drive b = s.drive b))

/-- SHADE HOME: the checks in order, and what an accepted command does to the drive by its state. A drive in HOMING counts anew
from its next step event (the model's mark, log 11). A drive in HOLDING with HOME active, as the input was last shown (the
model's choice, log 6), is at its top stop at once: it goes on in MOVING toward a desired stop other than 0 without a step yet
(log 7), and with verify off it is back in HOLDING where the desired stop is 0. -/
def Obligations.ShadeHomeActsByDriveState : Prop :=
  ∀ (h : FrameHead) (bay : Byte) (s : State), Taking s →
    (15 < bay.toNat → Completes (.shadeHome h bay) s (replied h.tag .badValue [] s)) ∧
    (∀ b : BayId, b.val = bay.toNat →
      ((s.target (shadeTarget b)).state ≠ .active →
        Completes (.shadeHome h bay) s (replied h.tag .notActive [] s)) ∧
      ((s.target (shadeTarget b)).state = .active → (s.target (shadeTarget b)).locked = true →
        Completes (.shadeHome h bay) s (replied h.tag .locked [] s)) ∧
      ((s.target (shadeTarget b)).state = .active → (s.target (shadeTarget b)).locked = false →
        (∃ u, Completes (.shadeHome h bay) s u ∧ RepliesFirst h.tag .ok [] s u) ∧
        (((s.drive b).state = .holding → s.homeIn.get b = true → (s.drive b).desired ≠ some 0) →
        ∃ u, Completes (.shadeHome h bay) s u ∧ u.link = (replied h.tag .ok [] s).link ∧
          u.bay b = { s.bay b with halted := false } ∧ u.targets = s.targets ∧ u.zones = s.zones ∧
          ((s.drive b).state = .homing → u.drive b = { s.drive b with
            position := none, powerTimeout := false, homingRestart := true
            pendingStop := if (s.drive b).pendingStop = .halt then .none else (s.drive b).pendingStop }) ∧
          ((s.drive b).state = .moving ∨ (s.drive b).state = .verifying → u.drive b = { s.drive b with
            position := none, powerTimeout := false
            pendingStop := if (s.drive b).pendingStop = .off then .off else .rehome }) ∧
          ((s.drive b).state = .waitPower ∨ (s.drive b).state = .energizing →
            u.drive b = { s.drive b with position := none, powerTimeout := false }) ∧
          ((s.drive b).state = .idle ∨ (s.drive b).state = .failed → (s.drive b).desired.isSome = true →
            (grantsHeld s < 4 → (u.drive b).state = .energizing ∧ (u.drive b).grant = true ∧
              (u.drive b).position = none) ∧
            (4 ≤ grantsHeld s → (u.drive b).state = .waitPower ∧ (u.drive b).position = none ∧
              u.grantQueue = s.grantQueue ++ [b])) ∧
          ((s.drive b).state = .holding → s.homeIn.get b = false →
            (u.drive b).state = .homing ∧ (u.drive b).homingCount = 0 ∧ (u.drive b).position = none ∧
              (u.drive b).holdTimer = none ∧ (u.drive b).firstStep = false ∧ (u.drive b).mismatchCount = 0 ∧
              (u.drive b).stepTimer = some (1000 / (s.bay b).cfg.stepRate)) ∧
          ((s.drive b).state = .holding → s.homeIn.get b = true →
            (u.drive b).state = .moving ∧ (u.drive b).position = some 0 ∧ (u.drive b).holdTimer = none ∧
              (u.drive b).stepTimer = some (1000 / (s.bay b).cfg.stepRate))) ∧
        ((s.drive b).state = .holding → s.homeIn.get b = true → (s.drive b).desired = some 0 →
          (s.bay b).cfg.verify = false → (s.drive b).following = false →
          ∃ u, Completes (.shadeHome h bay) s u ∧ (u.drive b).state = .holding ∧ (u.drive b).position = some 0 ∧
            (u.drive b).holdTimer = some 9000 ∧ (u.drive b).stepTimer = none ∧ (u.bay b).halted = false)))

/-- A step event before the end of the movement. In MOVING, away from the desired stop, before the arrival and with HOME
where the count says: one step toward the desired stop. In HOMING before its limit: HOME active makes the position 0 and sends
the drive on toward its desired stop, in MOVING without a second step in this event (DEDUCED, log 7); HOME inactive leaves it
homing with one step counted. The first step of the movement sets its mark and lets the bay's ACTIVE zones settle. Nothing else
of the part changes. -/
def Obligations.StepEventMovesOneStop : Prop :=
  ∀ (b : BayId) (home : Bool) (mark : Option (Fin 15)) (stop : Nat) (s : State), Operating s →
    (s.drive b).stepTimer.isSome = true → (s.drive b).pendingStop = .none → (s.drive b).desired = some stop →
    ∀ told : State, told = { setInputs b home mark s with zones := told.zones } →
      ((s.drive b).firstStep = true ∧ told.zones = s.zones) ∨
        ((s.drive b).firstStep = false ∧ NoZoneCalibrating s ∧ ∀ z, told.zone z =
          if bayOf z = b ∧ (s.target (zoneTarget z)).state = .active then
            { s.zone z with settling := true, settleTimer := none }
          else s.zone z) →
    (∀ p, (s.drive b).state = .moving → (s.drive b).position = some p →
      (p + 1 < stop → home = false →
        Completes (.stepEvent b home mark) s
          (told.setDrive b { s.drive b with
            position := some (p + 1), dir := .lowering, stepPulse := true, firstStep := true
            stepTimer := some (1000 / (s.bay b).cfg.stepRate) })) ∧
      (stop + 1 < p → home = false →
        Completes (.stepEvent b home mark) s
          (told.setDrive b { s.drive b with
            position := some (p - 1), dir := .raising, stepPulse := true, firstStep := true
            stepTimer := some (1000 / (s.bay b).cfg.stepRate) }))) ∧
    ((s.drive b).state = .homing → (s.drive b).position = none → (s.drive b).homingRestart = false →
      (home = false → (s.drive b).homingCount + 1 < 255 →
        Completes (.stepEvent b home mark) s
          (told.setDrive b { s.drive b with
            homingCount := (s.drive b).homingCount + 1, dir := .raising, stepPulse := true, firstStep := true
            stepTimer := some (1000 / (s.bay b).cfg.stepRate) })) ∧
      (home = true → stop ≠ 0 →
        Completes (.stepEvent b home mark) s
          (told.setDrive b { s.drive b with
            state := .moving, position := some 0, homingCount := (s.drive b).homingCount + 1, dir := .raising
            stepPulse := true, firstStep := true, phase := .none, verifyStop := none, searchCount := 0
            verifyAbandoned := false, stepTimer := some (1000 / (s.bay b).cfg.stepRate) })))

/-- The verify stop: arrival at a desired stop D with verify on begins a verification at the nearest mark stop, a D midway
between two going to the lower; a D of 233 to 239 is not verified and goes to HOLDING as with verify off. MARK is sampled in
the same event: no mark leaves the search at its start, and the mark of D confirms a D that is a mark stop at once. -/
def Obligations.VerificationChoosesTheNearestMark : Prop :=
  ∀ (b : BayId) (home : Bool) (d : Nat) (s : State), Operating s → d ≤ 239 →
    (s.drive b).state = .moving → (s.drive b).stepTimer.isSome = true → (s.drive b).pendingStop = .none →
    (s.drive b).position = some d → (s.drive b).desired = some d → (s.bay b).cfg.verify = true →
    (∀ v, ((d % 16 = 0 ∧ d ≤ 224 ∧ v = d) ∨ (1 ≤ d % 16 ∧ d % 16 ≤ 8 ∧ d ≤ 232 ∧ v = d - d % 16) ∨
        (9 ≤ d % 16 ∧ d < 224 ∧ v = d + (16 - d % 16))) →
      Completes (.stepEvent b home none) s
        ((setInputs b home none s).setDrive b { s.drive b with
          state := .verifying, phase := .seek, verifyStop := some v, searchCount := 0, verifyAbandoned := false
          stepPulse := false, stepTimer := some (1000 / (s.bay b).cfg.stepRate) })) ∧
    (233 ≤ d → ∀ mark, (s.drive b).following = false →
      ∃ u, Completes (.stepEvent b home mark) s u ∧ (u.drive b).state = .holding ∧ (u.drive b).phase = .none ∧
        (u.drive b).verifyStop = none ∧ (u.drive b).holdTimer = some 9000 ∧ (u.drive b).position = some d) ∧
    (∀ n : Fin 15, d = 16 * n.val → (s.drive b).following = false →
      ∃ u, Completes (.stepEvent b home (some n)) s u ∧ (u.drive b).state = .holding ∧ (u.drive b).phase = .none ∧
        (u.drive b).holdTimer = some 9000 ∧ (u.drive b).position = some d)

/-- The energise timer expires: HOMING without a position, MOVING away from the desired stop, HOLDING at it or under a halted
mark; the inputs take the levels of the event and keep them (the model's choice, log 6). Entry to MOVING makes no step yet (DEDUCED,
log 7), and a drive that comes to HOLDING so makes no at-rest report to the Fault Unit (DEDUCED, log 21). -/
def Obligations.EnergiseExpiryJudgesTheDesiredStop : Prop :=
  ∀ (b : BayId) (home : Bool) (mark : Option (Fin 15)) (s : State), Operating s →
    (s.drive b).energiseTimer.isSome = true →
    ((s.bay b).halted = true ∨ ((s.drive b).position.isSome = true ∧ (s.drive b).position = (s.drive b).desired) →
      ∃ u, Completes (.energiseTimerExpiry b home mark) s u ∧ (u.drive b).state = .holding ∧
        (u.drive b).holdTimer = some 9000 ∧ (u.drive b).energiseTimer = none ∧
        (u.drive b).position = (s.drive b).position ∧ (u.drive b).grant = (s.drive b).grant ∧
        u.homeIn.get b = home ∧ u.markIn.get b = mark ∧ u.link = s.link ∧ u.targets = s.targets) ∧
    ((s.bay b).halted = false → (s.drive b).position = none → home = false →
      ∃ u, Completes (.energiseTimerExpiry b home mark) s u ∧ (u.drive b).state = .homing ∧
        (u.drive b).homingCount = 0 ∧ (u.drive b).firstStep = false ∧ (u.drive b).mismatchCount = 0 ∧
        (u.drive b).position = none ∧ (u.drive b).energiseTimer = none ∧
        (u.drive b).stepTimer = some (1000 / (s.bay b).cfg.stepRate) ∧ u.link = s.link ∧ u.targets = s.targets) ∧
    (∀ p, (s.bay b).halted = false → (s.drive b).position = some p → (s.drive b).desired ≠ some p →
      ∃ u, Completes (.energiseTimerExpiry b home mark) s u ∧ (u.drive b).state = .moving ∧
        (u.drive b).firstStep = false ∧ (u.drive b).mismatchCount = 0 ∧ (u.drive b).position = some p ∧
        (u.drive b).energiseTimer = none ∧ (u.drive b).stepTimer = some (1000 / (s.bay b).cfg.stepRate) ∧
        u.link = s.link ∧ u.targets = s.targets)

/-- The hold timer of HOLDING releases the grant, which goes to the head of the grant queue, and the drive rests in IDLE where
no movement is needed. -/
def Obligations.HoldingEndsWithTheGrantReleased : Prop :=
  ∀ (b : BayId) (s : State), Operating s → (s.drive b).holdTimer.isSome = true → b ∉ s.grantQueue →
    ((s.drive b).desired = none ∨ (s.drive b).position = (s.drive b).desired ∨ (s.bay b).halted = true ∨
      (s.drive b).powerTimeout = true) →
    ∃ u, Completes (.driveHoldTimerExpiry b) s u ∧
      u.drive b = { s.drive b with state := .idle, grant := false, holdTimer := none, energiseTimer := none } ∧
      (s.grantQueue = [] → u.grantQueue = [] ∧ ∀ o, o ≠ b → u.drive o = s.drive o) ∧
      (∀ first rest, s.grantQueue = first :: rest → u.grantQueue = rest ∧
        u.drive first = { s.drive first with state := .energizing, grant := true, energiseTimer := some 400,
                                             waitTimer := none } ∧
        ∀ o, o ≠ b → o ≠ first → u.drive o = s.drive o) ∧
      u.link = s.link ∧ u.targets = s.targets ∧ u.bays = s.bays ∧ u.zones = s.zones

/-- The power wait timer expires: the drive leaves the grant queue for IDLE with its power-timeout mark, those behind it keep
their order, and SHADE_POWER_TIMEOUT is recorded against its target and noticed. -/
def Obligations.PowerTimeoutLeavesTheQueueAndRaises : Prop :=
  ∀ (b : BayId) (s : State), Operating s → (s.drive b).waitTimer.isSome = true →
    (s.target (shadeTarget b)).fault = none → (s.target (shadeTarget b)).window = false →
    (s.response .shadePowerTimeout).action = .report →
    ∃ u, Completes (.powerWaitTimeout b) s u ∧
      u.drive b = { s.drive b with state := .idle, powerTimeout := true, waitTimer := none } ∧
      u.grantQueue = s.grantQueue.filter (fun o => o ≠ b) ∧
      (∀ f, (u.target (shadeTarget b)).fault = some f →
        f.firstClass = .shadePowerTimeout ∧ f.latestClass = .shadePowerTimeout ∧ f.source = .bay b ∧
          f.stamp = s.seconds ∧ f.latched = true ∧ f.openSet = [] ∧ f.superseded = 0 ∧ f.lockMark = false ∧
          f.detail1 = (s.drive b).desired.getD 0 ∧ f.detail2 = (s.grantQueue.filter fun o => o ≠ b).length ∧
          f.completion = (if (s.drive b).position.isSome then .complete else .incomplete) ∧
          ((s.target (shadeTarget b)).state ≠ .active → f.context = none)) ∧
      (u.target (shadeTarget b)).fault.isSome = true ∧
      (u.target (shadeTarget b)).above = (s.target (shadeTarget b)).above ∧
      ((s.response .shadePowerTimeout).alarm = false → s.link.reports.length < 64 →
        ∃ n : FaultNotice, u.link = { s.link with reports := s.link.reports ++ [.fault n] } ∧
          n.target = some (shadeTarget b) ∧ n.cls = .shadePowerTimeout ∧ n.source = .bay b ∧
          n.outcome = .recorded ∧ n.created = true ∧ n.locked = false ∧ n.superseded = 0 ∧ n.stamp = s.seconds)

/-- The glare hold timer expires: a pending state completes; a base stop that stays the same is handed to nobody, and a new one
becomes the base context's value, which a drive resting in IDLE under the base context follows. -/
def Obligations.GlareHoldExpiryCompletesThePendingState : Prop :=
  ∀ (b : BayId) (s : State), Operating s → (s.bay b).glareTimer.isSome = true →
    ∀ old new g, ((s.bay b).glare = .glarePending ∧ g = Glare.glare ∧ old = (s.bay b).cfg.openStop ∧
        new = (s.bay b).cfg.glareStop) ∨
      ((s.bay b).glare = .clearPending ∧ g = Glare.clear ∧ old = (s.bay b).cfg.glareStop ∧
        new = (s.bay b).cfg.openStop) →
    (old = new →
      Completes (.glareHoldExpiry b) s (s.setBay b { s.bay b with glare := g, glareTimer := none })) ∧
    (old ≠ new → (s.target (shadeTarget b)).above ≠ [] → NoZoneCalibrating s →
      Completes (.glareHoldExpiry b) s
        ((s.setBay b { s.bay b with glare := g, glareTimer := none }).setTarget (shadeTarget b)
          { s.target (shadeTarget b) with baseValue := some new })) ∧
    (old ≠ new → (s.target (shadeTarget b)).above = [] → (s.target (shadeTarget b)).state = .active →
      (s.target (shadeTarget b)).baseValue = some old → NoZoneCalibrating s → (s.drive b).state = .idle →
      (s.drive b).desired = some old → (s.drive b).position = some old → grantsHeld s < 4 →
      ∃ u, Completes (.glareHoldExpiry b) s u ∧ (u.bay b).glare = g ∧ (u.bay b).glareTimer = none ∧
        (u.target (shadeTarget b)).baseValue = some new ∧ (u.drive b).desired = some new ∧
        (u.drive b).state = .energizing ∧ (u.drive b).energiseTimer = some 400)

/-! ### Zones -/

/-- A ramp tick moves the output one step toward the ramp target at the rate in force and never past it, marks the zone's
luminaires, runs on until the target is reached, and keeps the output in 0 to 1000. Where the tick brings a fallback to its value
while its entry window is open, the window closes in the same event (R53), and only that the tick completes is said. -/
def Obligations.RampTickMovesOneStep : Prop :=
  ∀ (z : ZoneId) (up down : Nat) (s : State), Operating s → (s.zone z).rampTimer.isSome = true →
    (s.zone z).rates = .perSecond up down →
    ∀ o r : Nat, o = (s.zone z).output → r = (s.zone z).rampTarget → o ≠ r →
    ∀ next, next = (if o < r then min r (o + max 1 (up / 10)) else max r (o - max 1 (down / 10))) →
      (o ≤ 1000 → r ≤ 1000 → next ≤ 1000) ∧ (o < r → o < next ∧ next ≤ r) ∧ (r < o → r ≤ next ∧ next < o) ∧
      ((s.zone z).copy.origin ≠ .fault ∨ (s.zone z).copy.value ≠ some next ∨
          (s.target (zoneTarget z)).window = false →
        Completes (.rampTick z) s (markZone z (s.setZone z { s.zone z with
          output := next, rampTimer := if next = r then none else some 100 }))) ∧
      (∃ u, Completes (.rampTick z) s u ∧ s.link.reports <+: u.link.reports)

/-- A zone update: none while the zone is out of service, settling or under FIX; none within the deadband; else half of the error
over the gain, rounded toward zero, is added to the output, and the result is raised to the lower bound and then lowered to the
upper bound, which CAP lowers. The ramp goes on toward it. -/
def Obligations.ZoneUpdateCorrectsTheRampTarget : Prop :=
  ∀ (z : ZoneId) (m : Nat) (s : State), measure s z = some m →
    ((s.target (zoneTarget z)).state ≠ .active ∨ (s.zone z).settling = true ∨ (s.zone z).copy.kind = .fix →
      governingSample z s = s) ∧
    ((s.target (zoneTarget z)).state = .active → (s.zone z).settling = false → (s.zone z).copy.kind ≠ .fix →
      ∀ goal gain upper : Nat,
      ((s.zone z).copy.kind = .setpoint ∧ (s.zone z).copy.value = some goal ∨
        (s.zone z).copy.kind ≠ .setpoint ∧ goal = (s.zone z).cfg.targetLux) →
      ((∃ c, (s.zone z).cal = some c ∧ gain = c.eg) ∨
        (s.zone z).cal = none ∧ gain = (s.zone z).cfg.nominalGain) →
      ((∃ c, (s.zone z).copy.kind = .cap ∧ (s.zone z).copy.value = some c ∧ upper = min (s.zone z).cfg.maxLevel c) ∨
        (s.zone z).copy.kind ≠ .cap ∧ upper = (s.zone z).cfg.maxLevel) →
      (goal ≤ m + (s.zone z).cfg.deadband → m ≤ goal + (s.zone z).cfg.deadband → governingSample z s = s) ∧
      (∀ r, (m + (s.zone z).cfg.deadband < goal ∧
            r = min (max ((s.zone z).output + (goal - m) * 500 / gain) (s.zone z).cfg.minLevel) upper) ∨
          (goal + (s.zone z).cfg.deadband < m ∧
            r = min (max ((s.zone z).output - (m - goal) * 500 / gain) (s.zone z).cfg.minLevel) upper) →
        governingSample z s = s.setZone z { s.zone z with
          rampTarget := r
          rampTimer := if (s.zone z).output = r then none else some ((s.zone z).rampTimer.getD 100) }))

/-- The settle timer clears the settling flag; the reading timer starts again and offers a READING, which enters only below
the almost-full threshold. -/
def Obligations.SettleAndReadingTimers : Prop :=
  ∀ (z : ZoneId) (s : State), Operating s →
    ((s.zone z).settleTimer.isSome = true →
      Completes (.settleTimerExpiry z) s (s.setZone z { s.zone z with settling := false, settleTimer := none })) ∧
    ((s.zone z).readingTimer.isSome = true →
      ∀ u, u = s.setZone z { s.zone z with readingTimer := some (1000 * (s.zone z).cfg.readingInterval) } →
      (s.link.threshold ≤ s.link.reports.length → Completes (.readingTimerExpiry z) s u) ∧
      (s.link.reports.length < s.link.threshold → ∀ m,
        (((s.zone z).source = .none ∧ m = none) ∨
          ((s.zone z).source = .direct ∧ m = (s.view (ceilingChannel z)).value) ∨
          ∃ sky c df, (s.zone z).source = .estimate ∧ (s.view (skyChannel (bayOf z))).value = some sky ∧
            (s.zone z).cal = some c ∧ c.df = some df ∧
            m = some (sky * df / 1000 + (s.zone z).output * c.eg / 1000)) →
        Completes (.readingTimerExpiry z) s
          (u.setLink { s.link with reports := s.link.reports ++
            [.reading z m (s.zone z).source (s.zone z).output (s.zone z).rampTarget (s.zone z).copy.origin
              (s.zone z).copy.kind (s.zone z).copy.level] })))

/-! ### Sensors -/

/-- The scan timer starts again at each expiry, and starts a scan from the lowest used channel or owes it; an owed start is
taken as soon as no scan is in progress. -/
def Obligations.ScanStartsOrIsOwed : Prop :=
  ∀ s : State, Operating s →
    (∀ p, s.scanner.poll = some p →
      Completes .scanTimerExpiry s
        (s.setScanner { s.scanner with scanTimer := some s.scanner.interval, owed := true })) ∧
    (s.scanner.poll = none → (∀ c, (s.channel c).used = false) →
      Completes .scanTimerExpiry s (s.setScanner { s.scanner with scanTimer := some s.scanner.interval })) ∧
    (∀ c, s.scanner.poll = none → (s.channel c).used = true → (∀ d, d < c → (s.channel d).used = false) →
      Completes .scanTimerExpiry s
        (s.setScanner { s.scanner with scanTimer := some s.scanner.interval, poll := some ⟨c, some 3, false⟩ }) ∧
      (s.scanner.owed = true → Completes .owedScanStart s
        (s.setScanner { s.scanner with owed := false, poll := some ⟨c, some 3, false⟩ }))) ∧
    ((∃ p, s.scanner.poll = some p) ∨ s.scanner.owed = false → Completes .owedScanStart s s)

/-- An answer of the polled channel, in range and not stuck. In STARTING the third value makes the channel VALID with the median
as its filtered value, and an earlier one joins the history. In VALID the filtered value moves toward the median by the shift,
the division rounded toward zero, and is published. -/
def Obligations.AnswerFiltersAndPublishes : Prop :=
  ∀ (c : ChannelId) (p : Poll) (channel : Byte) (raw : Half) (s : State), Operating s → s.scanner.poll = some p →
    p.channel = c → p.discard = false → channel.toNat = c.val → raw ≠ 0 → raw ≠ 0xFFFF →
    ∀ v, v = min 65535 (raw.toNat * (s.channel c).scale / 1024) → (16 ≤ c.val → v ≠ 65535) →
    ((s.channel c).state = .starting →
      ((s.channel c).history.length < 2 →
        ∃ u, Completes (.sensorAnswer channel raw .good) s u ∧
          u.channel c = { s.channel c with missCount := 0, lastRaw := some raw.toNat,
                                           history := (s.channel c).history ++ [v] } ∧
          (∀ d, d ≠ c → u.channel d = s.channel d) ∧ u.views = s.views ∧ u.zones = s.zones ∧ u.targets = s.targets ∧
          u.link = s.link) ∧
      (∀ x y, (s.channel c).history = [x, y] →
        ∃ u, Completes (.sensorAnswer channel raw .good) s u ∧
          u.channel c = { s.channel c with
            state := .valid, missCount := 0, lastRaw := some raw.toNat, history := [x, y, v], runCount := 1, spans := []
            filtered := some (max (min x y) (min (max x y) v)) } ∧
          u.view c = ⟨true, some (max (min x y) (min (max x y) v))⟩)) ∧
    ((s.channel c).state = .valid → (s.channel c).lastRaw ≠ some raw.toNat →
      ∀ x y w f, (s.channel c).history = [w, x, y] → (s.channel c).filtered = some f →
      ∀ m, m = max (min x y) (min (max x y) v) →
      ∀ g, g = (if f ≤ m then f + (m - f) / 2 ^ (s.channel c).shift else f - (f - m) / 2 ^ (s.channel c).shift) →
        ∃ u, Completes (.sensorAnswer channel raw .good) s u ∧
          u.channel c = { s.channel c with missCount := 0, lastRaw := some raw.toNat, history := [x, y, v],
                                           filtered := some g, runCount := 1, spans := [] } ∧
          u.view c = { s.view c with value := some g })

/-- An exchange that ends unanswered, by its timer or by an answer of its own that fails its check or carries another channel: a
first miss changes only the miss count; a second in a row takes the channel to FAULT(SENSOR_SILENT); a reconfigured channel is
not touched. An answer that arrives after its exchange has ended has no effect; that the row says so of an answer is the model's
choice (log 32). -/
def Obligations.UnansweredPollsSilenceAChannel : Prop :=
  ∀ (c : ChannelId) (p : Poll) (s : State), Operating s → s.scanner.poll = some p → p.channel = c →
    ∀ i, (i = Instr.sensorAnswerTimeout ∨
        ∃ channel raw arrival, i = Instr.sensorAnswer channel raw arrival ∧ arrival ≠ .late ∧
          (arrival = .failed ∨ channel.toNat ≠ c.val)) →
    (∀ channel raw, Completes (.sensorAnswer channel raw .late) s s) ∧
    (p.discard = true → ∃ u, Completes i s u ∧ u.channels = s.channels ∧ u.link = s.link ∧ u.targets = s.targets) ∧
    (p.discard = false → (s.channel c).state = .starting ∨ (s.channel c).state = .valid →
      ((s.channel c).missCount = 0 →
        ∃ u, Completes i s u ∧ u.channel c = { s.channel c with missCount := 1 } ∧
          (∀ d, d ≠ c → u.channel d = s.channel d) ∧ u.views = s.views ∧ u.link = s.link ∧ u.targets = s.targets) ∧
      (1 ≤ (s.channel c).missCount →
        ∃ u, Completes i s u ∧
          u.channel c = { s.channel c with state := .fault .silent, history := [], filtered := none, missCount := 0,
                                           recoveryCount := 0 } ∧
          ((s.channel c).state = .valid → u.view c = ⟨false, none⟩)))

/-! ### Luminaire lines -/

/-- BUS HOLD: the reply, the line state by R162's table, and the LINE STATE notice behind the REPLY; an engine that is not in
RUN starts nothing. BUS RELEASE: a line that is HELD or HOLD_PENDING becomes RUN with its LINE STATE notice, and one in RUN stays
as it is. -/
def Obligations.BusHoldAndReleaseSetTheLineState : Prop :=
  ∀ (h : FrameHead) (line : Byte) (s : State), Taking s →
    (1 < line.toNat → Completes (.busHold h line) s (replied h.tag .badValue [] s)) ∧
    (∀ l : LineId, line.toNat = lineCode l →
      ((s.line l).state = .run → (s.line l).transaction = none →
        Completes (.busHold h line) s
          (noticed (.lineState l .held (s.line l).list.length)
            ((replied h.tag .ok [] s).setLine l { s.line l with state := .held }))) ∧
      ((s.line l).state = .run → (s.line l).transaction ≠ none →
        Completes (.busHold h line) s
          ((replied h.tag .ok [] s).setLine l { s.line l with state := .holdPending })) ∧
      ((s.line l).state ≠ .run → Completes (.busHold h line) s (replied h.tag .ok [] s))) ∧
    (1 < line.toNat → Completes (.busRelease h line) s (replied h.tag .badValue [] s)) ∧
    (∀ l : LineId, line.toNat = lineCode l →
      ((s.line l).state ≠ .run →
        Completes (.busRelease h line) s
          (noticed (.lineState l .run (s.line l).list.length)
            ((replied h.tag .ok [] s).setLine l { s.line l with state := .run }))) ∧
      ((s.line l).state = .run → Completes (.busRelease h line) s (replied h.tag .ok [] s))) ∧
    (∀ l u, (u.line l).state ≠ .run → testLine l u = u)

/-- The level of a luminaire: an update transaction takes the head of the list and sends its zone's output, as it then stands
and whatever the zone's target state, times its trim over 1000, with the answer timer at 8 ms; a luminaire without a zone leaves
the list and receives no SET. Each time that is the whole effect. -/
def Obligations.UpdateSendsTheScaledOutput : Prop :=
  ∀ (l : LineId) (a : Address) (rest : List Address) (s : State), Operating s → (s.line l).state = .run →
    (s.line l).transaction = none → (s.line l).list = a :: rest →
    (∀ z v, (s.lum l a).zone = some z → v = (s.zone z).output * (s.lum l a).trim / 1000 →
      ((s.zone z).output ≤ 1000 → (s.lum l a).trim ≤ 1000 → v ≤ 1000) ∧
      ∀ u, u = (s.setLine l { s.line l with
            list := rest, transaction := some ⟨a, .set, v, .update, 1⟩, answerTimer := some 8 }).setLum l a
          { s.lum l a with dirty := false, sent := some v } →
        startUpdate l s = u ∧ Completes (.updateTransactionStart l) s u) ∧
    ((s.lum l a).zone = none →
      ∀ u, u = (s.setLine l { s.line l with list := rest }).setLum l a { s.lum l a with dirty := false } →
        startUpdate l s = u ∧ Completes (.updateTransactionStart l) s u)

/-- The answer to a SET within 20 of the level sent: the luminaire is PRESENT and confirmed. An unanswered first attempt on a
line that no hold waits for: the same SET is sent again. A second unanswered attempt: the luminaire is MISSING, dirty and
unlisted, LUMINAIRE_MISSING is raised against its zone, and the transaction ends. An answer that arrives after its attempt has
ended has no effect; that the row says so of an answer is the model's choice (log 33). -/
def Obligations.SetIsConfirmedSentAgainOrMissing : Prop :=
  ∀ (l : LineId) (t : Transaction) (s : State), Operating s → (s.line l).transaction = some t →
    t.purpose = .update →
    (∀ level : Half, level.toNat ≤ 1000 → level.toNat ≤ t.value + 20 → t.value ≤ level.toNat + 20 →
      (s.lum l t.address).presence ≠ .missing → (s.lum l t.address).mismatch = false →
      (s.lum l t.address).dirty = false → (s.line l).state = .run →
      Completes (.luminaireAnswer l level .good) s
        ((s.setLine l { s.line l with transaction := none, answerTimer := none }).setLum l t.address
          { s.lum l t.address with presence := .present, confirmed := some level.toNat, setConfirmed := true })) ∧
    (t.attempt = 1 → (s.line l).state ≠ .holdPending → ∀ again,
      again = s.setLine l { s.line l with transaction := some { t with attempt := 2 }, answerTimer := some 8 } →
      Completes (.luminaireAnswerTimeout l) s again ∧
      (∀ level arrival, arrival ≠ .late → arrival = .failed ∨ 1000 < level.toNat →
        Completes (.luminaireAnswer l level arrival) s again)) ∧
    (∀ level, Completes (.luminaireAnswer l level .late) s s) ∧
    (∀ z : ZoneId, t.attempt = 2 → (s.lum l t.address).presence ≠ .missing →
      (s.lum l t.address).zone = some z → (s.line l).state = .run →
      (s.target (zoneTarget z)).window = false → (s.response .luminaireMissing).action = .report →
      ∃ u, Completes (.luminaireAnswerTimeout l) s u ∧
        u.lum l t.address = { s.lum l t.address with presence := .missing, setConfirmed := false, dirty := true } ∧
        (u.line l).transaction = none ∧ (u.line l).list = (s.line l).list ∧
        (∀ f, (u.target (zoneTarget z)).fault = some f → f.latestClass = .luminaireMissing ∧
          f.source = .luminaire l t.address ∧ f.detail1 = t.value ∧
          f.detail2 = (match t.cmd with | .set => 1 | .query => 2) ∧ f.completion = .incomplete ∧
          ((s.target (zoneTarget z)).fault = none →
            f.openSet = [⟨.luminaireMissing, .luminaire l t.address⟩] ∧ f.latched = false)) ∧
        (u.target (zoneTarget z)).fault.isSome = true)

/-- The audit timer owes an audit and starts again with the audit interval; a quiet line with nothing listed sends its owed
QUERY to the lowest configured address above the cursor, wrapping to the lowest of all. -/
def Obligations.AuditsGoRoundTheLine : Prop :=
  ∀ (l : LineId) (s : State), Operating s →
    Completes (.auditTimerExpiry l) s
      (s.setLine l { s.line l with auditTimer := some (1000 * s.link.auditInterval), auditOwed := true }) ∧
    ((s.line l).state = .run → (s.line l).transaction = none → (s.line l).list = [] →
      (s.line l).auditOwed = true →
      (∀ a, (s.lum l a).configured = true →
        ((∀ c, (s.line l).cursor = some c → c < a) ∧
            (∀ b, (s.lum l b).configured = true → (∀ c, (s.line l).cursor = some c → c < b) → a ≤ b)) ∨
          ((∃ c, (s.line l).cursor = some c ∧ ∀ b, (s.lum l b).configured = true → b ≤ c) ∧
            ∀ b, (s.lum l b).configured = true → a ≤ b) →
        Completes (.audit l) s
          (s.setLine l { s.line l with auditOwed := false, transaction := some ⟨a, .query, 0, .audit, 1⟩,
                                       answerTimer := some 8 })) ∧
      ((∀ a, (s.lum l a).configured = false) →
        Completes (.audit l) s (s.setLine l { s.line l with auditOwed := false })))

/-! ### Queries -/

/-- Every QUERY is answered OK with the snapshot of its object as the part stands when it is taken, or BAD_VALUE for an index
outside its row of R208; it changes nothing else. -/
def Obligations.QueriesAnswerASnapshot : Prop :=
  ∀ (h : FrameHead) (i : Half) (a b : Byte) (s : State), Taking s →
    (∀ t : TargetId, t.val = i.toNat → Completes (.queryTarget h i) s (replied h.tag .ok (targetSnapshot s t) s)) ∧
    (∀ z : ZoneId, z.val = i.toNat → Completes (.queryZone h i) s (replied h.tag .ok (zoneSnapshot s z) s)) ∧
    (∀ y : BayId, y.val = i.toNat → Completes (.queryBay h i) s (replied h.tag .ok (baySnapshot s y) s)) ∧
    (∀ c : ChannelId, c.val = i.toNat →
      Completes (.querySensor h i) s (replied h.tag .ok (channelSnapshot s c) s)) ∧
    Completes (.querySensorAll h) s (replied h.tag .ok (scanSnapshot s) s) ∧
    (∀ l (x : Address), a.toNat = lineCode l → b.toNat = x.val →
      Completes (.queryLuminaire h a b) s (replied h.tag .ok (luminaireSnapshot s l x) s)) ∧
    (∀ l, a.toNat = lineCode l → Completes (.queryLuminaireAll h a) s (replied h.tag .ok (lineSnapshot s l) s)) ∧
    (∀ t : TargetId, t.val = b.toNat →
      Completes (.queryFault h a b) s (replied h.tag .ok (faultSnapshot s t a.toNat) s)) ∧
    (i.toNat ≤ 31 → Completes (.queryPending h i) s (replied h.tag .ok (pendingSnapshot s i.toNat) s)) ∧
    Completes (.querySweep h i) s (replied h.tag .ok (sweepSnapshot s) s) ∧
    (63 < i.toNat → Completes (.queryTarget h i) s (replied h.tag .badValue [] s) ∧
      Completes (.querySensor h i) s (replied h.tag .badValue [] s)) ∧
    (47 < i.toNat → Completes (.queryZone h i) s (replied h.tag .badValue [] s)) ∧
    (15 < i.toNat → Completes (.queryBay h i) s (replied h.tag .badValue [] s)) ∧
    (31 < i.toNat → Completes (.queryPending h i) s (replied h.tag .badValue [] s)) ∧
    (1 < a.toNat → Completes (.queryLuminaireAll h a) s (replied h.tag .badValue [] s)) ∧
    (1 < a.toNat ∨ 95 < b.toNat → Completes (.queryLuminaire h a b) s (replied h.tag .badValue [] s)) ∧
    (63 < b.toNat → Completes (.queryFault h a b) s (replied h.tag .badValue [] s))

/-- The snapshots of QUERY byte by byte (R208, R209): the codes of the named values that they show (R205), the fields of one,
two and four bytes, remaining times in whole seconds rounded up, and each result with its fields in the order of its layout and
its length. The zeros of a last raw and of the origin and kind of a context at fault that are absent are the model's choice
(log 35). -/
def Obligations.SnapshotsFollowTheirLayouts : Prop :=
  ([TargetState.unconfigured, .dormant, .active].map TargetState.code = [0, 1, 2] ∧
    [Origin.base, .host, .fault, .calibrate].map Origin.code = [0, 1, 2, 3] ∧
    [Kind.auto, .fix, .cap, .setpoint].map Kind.code = [0, 1, 2, 3] ∧
    [Source.none, .direct, .estimate].map Source.code = [0, 1, 2] ∧
    [ChannelState.unused, .starting, .valid, .fault .silent, .fault .range, .fault .stuck].map ChannelState.code =
      [0, 1, 2, 3, 4, 5] ∧
    [Glare.clear, .glarePending, .glare, .clearPending].map Glare.code = [0, 1, 2, 3] ∧
    [DriveState.off, .idle, .waitPower, .energizing, .homing, .moving, .verifying, .holding, .failed].map
      DriveState.code = [0, 1, 2, 3, 4, 5, 6, 7, 8] ∧
    [PendingStop.none, .halt, .release, .off, .rehome].map PendingStop.code = [0, 1, 2, 3, 4] ∧
    [VerifyPhase.none, .seek, .ret].map VerifyPhase.code = [0, 1, 2] ∧
    [LineId.l0, .l1].map lineCode = [0, 1] ∧
    [LineState.run, .holdPending, .held].map LineState.code = [0, 1, 2] ∧
    [Presence.unknown, .present, .missing].map Presence.code = [0, 1, 2] ∧
    [LineCommand.set, .query].map LineCommand.code = [1, 2] ∧
    [FaultClass.sensorSilent, .sensorRange, .sensorStuck, .measureLost, .luminaireMissing, .luminaireMismatch,
      .shadeHomeError, .shadeSeekError, .shadeVerifyError, .shadePowerTimeout, .shadeSwitchError,
      .calibrationImplausible].map FaultClass.code = [1, 2, 3, 4, 5, 6, 7, 8, 9, 10, 11, 12] ∧
    [Completion.notApplicable, .complete, .incomplete].map Completion.code = [0, 1, 2] ∧
    [SweepState.idle, .running, .stopping].map SweepState.code = [0, 1, 2] ∧
    [SweepPhase.none, .darkSettle, .darkRead, .lightSettle, .lightRead].map SweepPhase.code = [0, 1, 2, 3, 4]) ∧
  (∀ n, (be1 n).toNat = n % 256 ∧ be2 n = [be1 (n / 256), be1 n] ∧
    be4 n = [be1 (n / 16777216), be1 (n / 65536), be1 (n / 256), be1 n]) ∧
  (secondsLeft none = 0 ∧ ∀ ms, secondsLeft (some ms) = (ms + 999) / 1000) ∧
  (∀ c, FaultSource.bytes (.channel c) = [0, be1 c.val]) ∧ (∀ b, FaultSource.bytes (.bay b) = [0, be1 b.val]) ∧
  (∀ l a, FaultSource.bytes (.luminaire l a) = [be1 (lineCode l), be1 a.val]) ∧
  ∀ s : State,
    (∀ t r, r = s.target t → (targetSnapshot s t).length = 5 + 10 * r.above.length ∧ targetSnapshot s t =
      [be1 (r.state.code + 4 * r.locked.toNat + 8 * r.window.toNat + 16 * r.watch.toNat), be1 r.above.length,
        be1 (s.pendingList.filter fun e => e.target = t).length] ++ be2 (r.baseValue.getD 0xFFFF) ++
      r.above.reverse.flatMap fun c => [be1 (16 * c.origin.code + c.kind.code), be1 (c.level + 16 * c.locked.toNat)] ++
        be2 (c.value.getD 0) ++ be2 c.fade ++ be2 (c.identity.getD 0) ++ be2 (secondsLeft c.hold)) ∧
    (∀ z r c, r = s.zone z → c = r.cfg → (zoneSnapshot s z).length = 37 ∧ zoneSnapshot s z =
      be2 c.targetLux ++ be2 c.deadband ++ be2 c.minLevel ++ be2 c.maxLevel ++ be2 c.upRate ++ be2 c.downRate ++
        be2 c.fallback ++ be2 c.nominalGain ++ [be1 c.ceilingSensor.toNat] ++ be2 c.readingInterval ++ be2 r.output ++
        be2 r.rampTarget ++ [be1 r.source.code, be1 r.settling.toNat, be1 (secondsLeft r.settleTimer)] ++
        be2 (secondsLeft r.readingTimer) ++
        (match r.cal with
          | none => [be1 0] ++ be2 0 ++ be2 0 ++ be4 0
          | some ⟨eg, none, stamp⟩ => [be1 1] ++ be2 eg ++ be2 0 ++ be4 stamp.toNat
          | some ⟨eg, some df, stamp⟩ => [be1 3] ++ be2 eg ++ be2 df ++ be4 stamp.toNat)) ∧
    (∀ b r c d, r = s.bay b → c = r.cfg → d = s.drive b → (baySnapshot s b).length = 29 ∧ baySnapshot s b =
      [be1 c.skySensor.toNat] ++ be2 c.glareOn ++ be2 c.glareOff ++ be2 c.glareOnHold ++ be2 c.glareOffHold ++
        [be1 c.shadePresent.toNat, be1 c.openStop, be1 c.glareStop, be1 c.fallbackStop, be1 c.stepRate,
          be1 c.verify.toNat, be1 c.settleInterval, be1 r.glare.code] ++ be2 (secondsLeft r.glareTimer) ++
        [be1 (r.frozen.toNat + 2 * r.halted.toNat + 4 * d.powerTimeout.toNat + 8 * d.following.toNat +
            16 * d.grant.toNat), be1 d.state.code, be1 (d.position.getD 0xFF), be1 (d.desired.getD 0xFF),
          be1 d.pendingStop.code, if b ∈ s.grantQueue then be1 (s.grantQueue.idxOf b) else 0xFF, be1 d.phase.code,
          be1 (d.verifyStop.getD 0xFF), be1 d.searchCount, be1 d.mismatchCount]) ∧
    (∀ c r, r = s.channel c → (channelSnapshot s c).length = 15 ∧ channelSnapshot s c =
      [be1 r.used.toNat] ++ be2 r.scale ++ [be1 r.shift, be1 r.state.code] ++ be2 (r.filtered.getD 0) ++
        (match r.lastRaw with
          | none => [be1 0] ++ be2 0
          | some raw => [be1 1] ++ be2 raw) ++
        [be1 r.history.length, be1 r.missCount, be1 r.recoveryCount] ++ be2 r.runCount) ∧
    (∀ count : (ChannelState → Bool) → Nat,
      (∀ p, count p = ((List.finRange 64).filter fun c => p (s.channel c).state).length) →
      (scanSnapshot s).length = 6 ∧ scanSnapshot s = be2 s.scanner.interval ++
        [be1 (count fun x => x == .unused), be1 (count fun x => x == .starting), be1 (count fun x => x == .valid),
          be1 (count fun x => x == .fault .silent || x == .fault .range || x == .fault .stuck)]) ∧
    (∀ l a x, x = s.lum l a → (luminaireSnapshot s l a).length = 11 ∧
      ∀ busy : Bool, (busy = true ↔ ∃ t, (s.line l).transaction = some t ∧ t.address = a) → luminaireSnapshot s l a =
        [be1 x.configured.toNat, be1 ((x.zone.map fun z => z.val).getD 0xFF)] ++ be2 x.trim ++ [be1 x.presence.code] ++
          be2 (x.sent.getD 0xFFFF) ++ be2 (x.confirmed.getD 0xFFFF) ++
          [be1 (x.setConfirmed.toNat + 2 * x.dirty.toNat + 4 * x.mismatch.toNat + 8 * busy.toNat),
            if a ∈ (s.line l).list then be1 ((s.line l).list.idxOf a) else 0xFF]) ∧
    (∀ l r, r = s.line l → (lineSnapshot s l).length = 7 ∧ lineSnapshot s l =
      [be1 r.state.code, be1 r.list.length] ++
        (match r.transaction with
          | none => [be1 0, be1 0, be1 0]
          | some t => [be1 t.cmd.code, be1 t.address.val, be1 t.attempt]) ++
        [be1 r.auditOwed.toNat, be1 ((r.cursor.map fun a => a.val).getD 0xFF)]) ∧
    (∀ t n, (s.target t).fault = none → faultSnapshot s t n = [0]) ∧
    (∀ t n f, (s.target t).fault = some f →
      (faultSnapshot s t n).length = 20 + 3 * min 8 (f.openSet.length - n) ∧ faultSnapshot s t n =
        [be1 1, be1 f.firstClass.code, be1 f.latestClass.code] ++ f.source.bytes ++ be4 f.stamp.toNat ++
          (match f.context with
            | none => [be1 0, 0xFF]
            | some c => [be1 (16 * c.origin.code + c.kind.code), be1 c.level]) ++
          [be1 f.completion.code] ++ be2 f.detail1 ++ be2 f.detail2 ++
          [be1 (f.latched.toNat + 2 * f.lockMark.toNat), be1 f.superseded, be1 f.openSet.length, be1 n] ++
          ((f.openSet.drop n).take 8).flatMap fun c => [be1 c.cls.code] ++ c.source.bytes) ∧
    (∀ n e, s.pendingList[n]? = some e → pendingSnapshot s n =
      [be1 s.pendingList.length, 1, be1 e.target.val, be1 e.level, be1 e.kind.code, be1 (e.value / 256), be1 e.value,
        be1 (e.fade / 256), be1 e.fade, be1 (e.hold.getD 0 / 256), be1 (e.hold.getD 0), be1 (e.identity / 256),
        be1 e.identity, be1 (secondsLeft e.wait)]) ∧
    (∀ n, s.pendingList.length ≤ n → pendingSnapshot s n = [be1 s.pendingList.length, 0]) ∧
    (∀ r, r = s.sweep → (sweepSnapshot s).length = 19 ∧ sweepSnapshot s =
      [be1 r.state.code, be1 r.first.val, be1 r.last.val, be1 r.settle, be1 ((r.current.map fun z => z.val).getD 0xFF),
        be1 r.phase.code, be1 (secondsLeft r.timer),
        be1 (r.restartUsed.toNat + 2 * r.ceilingValid.toNat + 4 * r.latestSky.isSome.toNat + 8 * r.m0.isSome.toNat +
          16 * r.s0.isSome.toNat)] ++
        be2 (r.latestSky.getD 0) ++ be2 (r.m0.getD 0) ++ be2 (r.s0.getD 0) ++
        [be1 r.counts.done, be1 r.counts.failed, be1 r.counts.skipped, be1 r.counts.abandoned, be1 r.counts.disturbed])
end

