-- ==== Sys2Proof/Laws/State.lean ====
section
/-! SUPPORT. What one record write does to every field and every reader of the state: one lemma for each. -/

namespace Sys2Proof.Machine

open Sys2Proof

/-! ### Reading a table after a write -/

theorem get_set_same {α : Type} {n : Nat} (v : Vector α n) (i : Fin n) (x : α) : (v.set i.val x i.isLt).get i = x := by
  simp [Vector.get_eq_getElem]

theorem get_set_other {α : Type} {n : Nat} (v : Vector α n) (i j : Fin n) (x : α) (h : j ≠ i) :
    (v.set i.val x i.isLt).get j = v.get j := by
  have h' : i.val ≠ j.val := fun e => h (Fin.ext e.symm)
  simp [Vector.get_eq_getElem, Vector.getElem_set_ne _ _ h']

theorem get_set {α : Type} {n : Nat} (v : Vector α n) (i j : Fin n) (x : α) :
    (v.set i.val x i.isLt).get j = if j = i then x else v.get j := by
  by_cases h : j = i
  · subst h; simp [get_set_same]
  · simp [h, get_set_other v i j x h]

/-! ### Fields after a write -/

@[simp] theorem State.setZone_rstAsserted (s : State) (z : ZoneId) (r : Zone) : (s.setZone z r).rstAsserted = s.rstAsserted := rfl
@[simp] theorem State.setZone_hrdy (s : State) (z : ZoneId) (r : Zone) : (s.setZone z r).hrdy = s.hrdy := rfl
@[simp] theorem State.setZone_homeIn (s : State) (z : ZoneId) (r : Zone) : (s.setZone z r).homeIn = s.homeIn := rfl
@[simp] theorem State.setZone_markIn (s : State) (z : ZoneId) (r : Zone) : (s.setZone z r).markIn = s.markIn := rfl
@[simp] theorem State.setZone_seconds (s : State) (z : ZoneId) (r : Zone) : (s.setZone z r).seconds = s.seconds := rfl
@[simp] theorem State.setZone_link (s : State) (z : ZoneId) (r : Zone) : (s.setZone z r).link = s.link := rfl
@[simp] theorem State.setZone_scanner (s : State) (z : ZoneId) (r : Zone) : (s.setZone z r).scanner = s.scanner := rfl
@[simp] theorem State.setZone_channels (s : State) (z : ZoneId) (r : Zone) : (s.setZone z r).channels = s.channels := rfl
@[simp] theorem State.setZone_views (s : State) (z : ZoneId) (r : Zone) : (s.setZone z r).views = s.views := rfl
@[simp] theorem State.setZone_zones (s : State) (z : ZoneId) (r : Zone) :
    (s.setZone z r).zones = s.zones.set z.val r z.isLt := rfl
@[simp] theorem State.setZone_bays (s : State) (z : ZoneId) (r : Zone) : (s.setZone z r).bays = s.bays := rfl
@[simp] theorem State.setZone_targets (s : State) (z : ZoneId) (r : Zone) : (s.setZone z r).targets = s.targets := rfl
@[simp] theorem State.setZone_pendingList (s : State) (z : ZoneId) (r : Zone) : (s.setZone z r).pendingList = s.pendingList := rfl
@[simp] theorem State.setZone_nextArrival (s : State) (z : ZoneId) (r : Zone) : (s.setZone z r).nextArrival = s.nextArrival := rfl
@[simp] theorem State.setZone_responses (s : State) (z : ZoneId) (r : Zone) : (s.setZone z r).responses = s.responses := rfl
@[simp] theorem State.setZone_drives (s : State) (z : ZoneId) (r : Zone) : (s.setZone z r).drives = s.drives := rfl
@[simp] theorem State.setZone_grantQueue (s : State) (z : ZoneId) (r : Zone) : (s.setZone z r).grantQueue = s.grantQueue := rfl
@[simp] theorem State.setZone_lineL0 (s : State) (z : ZoneId) (r : Zone) : (s.setZone z r).lineL0 = s.lineL0 := rfl
@[simp] theorem State.setZone_lineL1 (s : State) (z : ZoneId) (r : Zone) : (s.setZone z r).lineL1 = s.lineL1 := rfl
@[simp] theorem State.setZone_sweep (s : State) (z : ZoneId) (r : Zone) : (s.setZone z r).sweep = s.sweep := rfl
@[simp] theorem State.setZone_pending (s : State) (z : ZoneId) (r : Zone) : (s.setZone z r).pending = s.pending := rfl
@[simp] theorem State.setBay_rstAsserted (s : State) (b : BayId) (r : Bay) : (s.setBay b r).rstAsserted = s.rstAsserted := rfl
@[simp] theorem State.setBay_hrdy (s : State) (b : BayId) (r : Bay) : (s.setBay b r).hrdy = s.hrdy := rfl
@[simp] theorem State.setBay_homeIn (s : State) (b : BayId) (r : Bay) : (s.setBay b r).homeIn = s.homeIn := rfl
@[simp] theorem State.setBay_markIn (s : State) (b : BayId) (r : Bay) : (s.setBay b r).markIn = s.markIn := rfl
@[simp] theorem State.setBay_seconds (s : State) (b : BayId) (r : Bay) : (s.setBay b r).seconds = s.seconds := rfl
@[simp] theorem State.setBay_link (s : State) (b : BayId) (r : Bay) : (s.setBay b r).link = s.link := rfl
@[simp] theorem State.setBay_scanner (s : State) (b : BayId) (r : Bay) : (s.setBay b r).scanner = s.scanner := rfl
@[simp] theorem State.setBay_channels (s : State) (b : BayId) (r : Bay) : (s.setBay b r).channels = s.channels := rfl
@[simp] theorem State.setBay_views (s : State) (b : BayId) (r : Bay) : (s.setBay b r).views = s.views := rfl
@[simp] theorem State.setBay_zones (s : State) (b : BayId) (r : Bay) : (s.setBay b r).zones = s.zones := rfl
@[simp] theorem State.setBay_bays (s : State) (b : BayId) (r : Bay) :
    (s.setBay b r).bays = s.bays.set b.val r b.isLt := rfl
@[simp] theorem State.setBay_targets (s : State) (b : BayId) (r : Bay) : (s.setBay b r).targets = s.targets := rfl
@[simp] theorem State.setBay_pendingList (s : State) (b : BayId) (r : Bay) : (s.setBay b r).pendingList = s.pendingList := rfl
@[simp] theorem State.setBay_nextArrival (s : State) (b : BayId) (r : Bay) : (s.setBay b r).nextArrival = s.nextArrival := rfl
@[simp] theorem State.setBay_responses (s : State) (b : BayId) (r : Bay) : (s.setBay b r).responses = s.responses := rfl
@[simp] theorem State.setBay_drives (s : State) (b : BayId) (r : Bay) : (s.setBay b r).drives = s.drives := rfl
@[simp] theorem State.setBay_grantQueue (s : State) (b : BayId) (r : Bay) : (s.setBay b r).grantQueue = s.grantQueue := rfl
@[simp] theorem State.setBay_lineL0 (s : State) (b : BayId) (r : Bay) : (s.setBay b r).lineL0 = s.lineL0 := rfl
@[simp] theorem State.setBay_lineL1 (s : State) (b : BayId) (r : Bay) : (s.setBay b r).lineL1 = s.lineL1 := rfl
@[simp] theorem State.setBay_sweep (s : State) (b : BayId) (r : Bay) : (s.setBay b r).sweep = s.sweep := rfl
@[simp] theorem State.setBay_pending (s : State) (b : BayId) (r : Bay) : (s.setBay b r).pending = s.pending := rfl
@[simp] theorem State.setTarget_rstAsserted (s : State) (t : TargetId) (r : Target) :
    (s.setTarget t r).rstAsserted = s.rstAsserted := rfl
@[simp] theorem State.setTarget_hrdy (s : State) (t : TargetId) (r : Target) : (s.setTarget t r).hrdy = s.hrdy := rfl
@[simp] theorem State.setTarget_homeIn (s : State) (t : TargetId) (r : Target) : (s.setTarget t r).homeIn = s.homeIn := rfl
@[simp] theorem State.setTarget_markIn (s : State) (t : TargetId) (r : Target) : (s.setTarget t r).markIn = s.markIn := rfl
@[simp] theorem State.setTarget_seconds (s : State) (t : TargetId) (r : Target) : (s.setTarget t r).seconds = s.seconds := rfl
@[simp] theorem State.setTarget_link (s : State) (t : TargetId) (r : Target) : (s.setTarget t r).link = s.link := rfl
@[simp] theorem State.setTarget_scanner (s : State) (t : TargetId) (r : Target) : (s.setTarget t r).scanner = s.scanner := rfl
@[simp] theorem State.setTarget_channels (s : State) (t : TargetId) (r : Target) : (s.setTarget t r).channels = s.channels := rfl
@[simp] theorem State.setTarget_views (s : State) (t : TargetId) (r : Target) : (s.setTarget t r).views = s.views := rfl
@[simp] theorem State.setTarget_zones (s : State) (t : TargetId) (r : Target) : (s.setTarget t r).zones = s.zones := rfl
@[simp] theorem State.setTarget_bays (s : State) (t : TargetId) (r : Target) : (s.setTarget t r).bays = s.bays := rfl
@[simp] theorem State.setTarget_targets (s : State) (t : TargetId) (r : Target) :
    (s.setTarget t r).targets = s.targets.set t.val r t.isLt := rfl
@[simp] theorem State.setTarget_pendingList (s : State) (t : TargetId) (r : Target) :
    (s.setTarget t r).pendingList = s.pendingList := rfl
@[simp] theorem State.setTarget_nextArrival (s : State) (t : TargetId) (r : Target) :
    (s.setTarget t r).nextArrival = s.nextArrival := rfl
@[simp] theorem State.setTarget_responses (s : State) (t : TargetId) (r : Target) :
    (s.setTarget t r).responses = s.responses := rfl
@[simp] theorem State.setTarget_drives (s : State) (t : TargetId) (r : Target) : (s.setTarget t r).drives = s.drives := rfl
@[simp] theorem State.setTarget_grantQueue (s : State) (t : TargetId) (r : Target) :
    (s.setTarget t r).grantQueue = s.grantQueue := rfl
@[simp] theorem State.setTarget_lineL0 (s : State) (t : TargetId) (r : Target) : (s.setTarget t r).lineL0 = s.lineL0 := rfl
@[simp] theorem State.setTarget_lineL1 (s : State) (t : TargetId) (r : Target) : (s.setTarget t r).lineL1 = s.lineL1 := rfl
@[simp] theorem State.setTarget_sweep (s : State) (t : TargetId) (r : Target) : (s.setTarget t r).sweep = s.sweep := rfl
@[simp] theorem State.setTarget_pending (s : State) (t : TargetId) (r : Target) : (s.setTarget t r).pending = s.pending := rfl
@[simp] theorem State.setDrive_rstAsserted (s : State) (b : BayId) (r : Drive) :
    (s.setDrive b r).rstAsserted = s.rstAsserted := rfl
@[simp] theorem State.setDrive_hrdy (s : State) (b : BayId) (r : Drive) : (s.setDrive b r).hrdy = s.hrdy := rfl
@[simp] theorem State.setDrive_homeIn (s : State) (b : BayId) (r : Drive) : (s.setDrive b r).homeIn = s.homeIn := rfl
@[simp] theorem State.setDrive_markIn (s : State) (b : BayId) (r : Drive) : (s.setDrive b r).markIn = s.markIn := rfl
@[simp] theorem State.setDrive_seconds (s : State) (b : BayId) (r : Drive) : (s.setDrive b r).seconds = s.seconds := rfl
@[simp] theorem State.setDrive_link (s : State) (b : BayId) (r : Drive) : (s.setDrive b r).link = s.link := rfl
@[simp] theorem State.setDrive_scanner (s : State) (b : BayId) (r : Drive) : (s.setDrive b r).scanner = s.scanner := rfl
@[simp] theorem State.setDrive_channels (s : State) (b : BayId) (r : Drive) : (s.setDrive b r).channels = s.channels := rfl
@[simp] theorem State.setDrive_views (s : State) (b : BayId) (r : Drive) : (s.setDrive b r).views = s.views := rfl
@[simp] theorem State.setDrive_zones (s : State) (b : BayId) (r : Drive) : (s.setDrive b r).zones = s.zones := rfl
@[simp] theorem State.setDrive_bays (s : State) (b : BayId) (r : Drive) : (s.setDrive b r).bays = s.bays := rfl
@[simp] theorem State.setDrive_targets (s : State) (b : BayId) (r : Drive) : (s.setDrive b r).targets = s.targets := rfl
@[simp] theorem State.setDrive_pendingList (s : State) (b : BayId) (r : Drive) :
    (s.setDrive b r).pendingList = s.pendingList := rfl
@[simp] theorem State.setDrive_nextArrival (s : State) (b : BayId) (r : Drive) :
    (s.setDrive b r).nextArrival = s.nextArrival := rfl
@[simp] theorem State.setDrive_responses (s : State) (b : BayId) (r : Drive) : (s.setDrive b r).responses = s.responses := rfl
@[simp] theorem State.setDrive_drives (s : State) (b : BayId) (r : Drive) :
    (s.setDrive b r).drives = s.drives.set b.val r b.isLt := rfl
@[simp] theorem State.setDrive_grantQueue (s : State) (b : BayId) (r : Drive) : (s.setDrive b r).grantQueue = s.grantQueue := rfl
@[simp] theorem State.setDrive_lineL0 (s : State) (b : BayId) (r : Drive) : (s.setDrive b r).lineL0 = s.lineL0 := rfl
@[simp] theorem State.setDrive_lineL1 (s : State) (b : BayId) (r : Drive) : (s.setDrive b r).lineL1 = s.lineL1 := rfl
@[simp] theorem State.setDrive_sweep (s : State) (b : BayId) (r : Drive) : (s.setDrive b r).sweep = s.sweep := rfl
@[simp] theorem State.setDrive_pending (s : State) (b : BayId) (r : Drive) : (s.setDrive b r).pending = s.pending := rfl
@[simp] theorem State.setChannel_rstAsserted (s : State) (c : ChannelId) (r : Channel) :
    (s.setChannel c r).rstAsserted = s.rstAsserted := rfl
@[simp] theorem State.setChannel_hrdy (s : State) (c : ChannelId) (r : Channel) : (s.setChannel c r).hrdy = s.hrdy := rfl
@[simp] theorem State.setChannel_homeIn (s : State) (c : ChannelId) (r : Channel) : (s.setChannel c r).homeIn = s.homeIn := rfl
@[simp] theorem State.setChannel_markIn (s : State) (c : ChannelId) (r : Channel) : (s.setChannel c r).markIn = s.markIn := rfl
@[simp] theorem State.setChannel_seconds (s : State) (c : ChannelId) (r : Channel) : (s.setChannel c r).seconds = s.seconds := rfl
@[simp] theorem State.setChannel_link (s : State) (c : ChannelId) (r : Channel) : (s.setChannel c r).link = s.link := rfl
@[simp] theorem State.setChannel_scanner (s : State) (c : ChannelId) (r : Channel) : (s.setChannel c r).scanner = s.scanner := rfl
@[simp] theorem State.setChannel_channels (s : State) (c : ChannelId) (r : Channel) :
    (s.setChannel c r).channels = s.channels.set c.val r c.isLt := rfl
@[simp] theorem State.setChannel_views (s : State) (c : ChannelId) (r : Channel) : (s.setChannel c r).views = s.views := rfl
@[simp] theorem State.setChannel_zones (s : State) (c : ChannelId) (r : Channel) : (s.setChannel c r).zones = s.zones := rfl
@[simp] theorem State.setChannel_bays (s : State) (c : ChannelId) (r : Channel) : (s.setChannel c r).bays = s.bays := rfl
@[simp] theorem State.setChannel_targets (s : State) (c : ChannelId) (r : Channel) : (s.setChannel c r).targets = s.targets := rfl
@[simp] theorem State.setChannel_pendingList (s : State) (c : ChannelId) (r : Channel) :
    (s.setChannel c r).pendingList = s.pendingList := rfl
@[simp] theorem State.setChannel_nextArrival (s : State) (c : ChannelId) (r : Channel) :
    (s.setChannel c r).nextArrival = s.nextArrival := rfl
@[simp] theorem State.setChannel_responses (s : State) (c : ChannelId) (r : Channel) :
    (s.setChannel c r).responses = s.responses := rfl
@[simp] theorem State.setChannel_drives (s : State) (c : ChannelId) (r : Channel) : (s.setChannel c r).drives = s.drives := rfl
@[simp] theorem State.setChannel_grantQueue (s : State) (c : ChannelId) (r : Channel) :
    (s.setChannel c r).grantQueue = s.grantQueue := rfl
@[simp] theorem State.setChannel_lineL0 (s : State) (c : ChannelId) (r : Channel) : (s.setChannel c r).lineL0 = s.lineL0 := rfl
@[simp] theorem State.setChannel_lineL1 (s : State) (c : ChannelId) (r : Channel) : (s.setChannel c r).lineL1 = s.lineL1 := rfl
@[simp] theorem State.setChannel_sweep (s : State) (c : ChannelId) (r : Channel) : (s.setChannel c r).sweep = s.sweep := rfl
@[simp] theorem State.setChannel_pending (s : State) (c : ChannelId) (r : Channel) : (s.setChannel c r).pending = s.pending := rfl
@[simp] theorem State.setView_rstAsserted (s : State) (c : ChannelId) (r : ChannelView) :
    (s.setView c r).rstAsserted = s.rstAsserted := rfl
@[simp] theorem State.setView_hrdy (s : State) (c : ChannelId) (r : ChannelView) : (s.setView c r).hrdy = s.hrdy := rfl
@[simp] theorem State.setView_homeIn (s : State) (c : ChannelId) (r : ChannelView) : (s.setView c r).homeIn = s.homeIn := rfl
@[simp] theorem State.setView_markIn (s : State) (c : ChannelId) (r : ChannelView) : (s.setView c r).markIn = s.markIn := rfl
@[simp] theorem State.setView_seconds (s : State) (c : ChannelId) (r : ChannelView) : (s.setView c r).seconds = s.seconds := rfl
@[simp] theorem State.setView_link (s : State) (c : ChannelId) (r : ChannelView) : (s.setView c r).link = s.link := rfl
@[simp] theorem State.setView_scanner (s : State) (c : ChannelId) (r : ChannelView) : (s.setView c r).scanner = s.scanner := rfl
@[simp] theorem State.setView_channels (s : State) (c : ChannelId) (r : ChannelView) :
    (s.setView c r).channels = s.channels := rfl
@[simp] theorem State.setView_views (s : State) (c : ChannelId) (r : ChannelView) :
    (s.setView c r).views = s.views.set c.val r c.isLt := rfl
@[simp] theorem State.setView_zones (s : State) (c : ChannelId) (r : ChannelView) : (s.setView c r).zones = s.zones := rfl
@[simp] theorem State.setView_bays (s : State) (c : ChannelId) (r : ChannelView) : (s.setView c r).bays = s.bays := rfl
@[simp] theorem State.setView_targets (s : State) (c : ChannelId) (r : ChannelView) : (s.setView c r).targets = s.targets := rfl
@[simp] theorem State.setView_pendingList (s : State) (c : ChannelId) (r : ChannelView) :
    (s.setView c r).pendingList = s.pendingList := rfl
@[simp] theorem State.setView_nextArrival (s : State) (c : ChannelId) (r : ChannelView) :
    (s.setView c r).nextArrival = s.nextArrival := rfl
@[simp] theorem State.setView_responses (s : State) (c : ChannelId) (r : ChannelView) :
    (s.setView c r).responses = s.responses := rfl
@[simp] theorem State.setView_drives (s : State) (c : ChannelId) (r : ChannelView) : (s.setView c r).drives = s.drives := rfl
@[simp] theorem State.setView_grantQueue (s : State) (c : ChannelId) (r : ChannelView) :
    (s.setView c r).grantQueue = s.grantQueue := rfl
@[simp] theorem State.setView_lineL0 (s : State) (c : ChannelId) (r : ChannelView) : (s.setView c r).lineL0 = s.lineL0 := rfl
@[simp] theorem State.setView_lineL1 (s : State) (c : ChannelId) (r : ChannelView) : (s.setView c r).lineL1 = s.lineL1 := rfl
@[simp] theorem State.setView_sweep (s : State) (c : ChannelId) (r : ChannelView) : (s.setView c r).sweep = s.sweep := rfl
@[simp] theorem State.setView_pending (s : State) (c : ChannelId) (r : ChannelView) : (s.setView c r).pending = s.pending := rfl
@[simp] theorem State.setLink_rstAsserted (s : State) (r : LinkPort) : (s.setLink r).rstAsserted = s.rstAsserted := rfl
@[simp] theorem State.setLink_hrdy (s : State) (r : LinkPort) : (s.setLink r).hrdy = s.hrdy := rfl
@[simp] theorem State.setLink_homeIn (s : State) (r : LinkPort) : (s.setLink r).homeIn = s.homeIn := rfl
@[simp] theorem State.setLink_markIn (s : State) (r : LinkPort) : (s.setLink r).markIn = s.markIn := rfl
@[simp] theorem State.setLink_seconds (s : State) (r : LinkPort) : (s.setLink r).seconds = s.seconds := rfl
@[simp] theorem State.setLink_link (s : State) (r : LinkPort) : (s.setLink r).link = r := rfl
@[simp] theorem State.setLink_scanner (s : State) (r : LinkPort) : (s.setLink r).scanner = s.scanner := rfl
@[simp] theorem State.setLink_channels (s : State) (r : LinkPort) : (s.setLink r).channels = s.channels := rfl
@[simp] theorem State.setLink_views (s : State) (r : LinkPort) : (s.setLink r).views = s.views := rfl
@[simp] theorem State.setLink_zones (s : State) (r : LinkPort) : (s.setLink r).zones = s.zones := rfl
@[simp] theorem State.setLink_bays (s : State) (r : LinkPort) : (s.setLink r).bays = s.bays := rfl
@[simp] theorem State.setLink_targets (s : State) (r : LinkPort) : (s.setLink r).targets = s.targets := rfl
@[simp] theorem State.setLink_pendingList (s : State) (r : LinkPort) : (s.setLink r).pendingList = s.pendingList := rfl
@[simp] theorem State.setLink_nextArrival (s : State) (r : LinkPort) : (s.setLink r).nextArrival = s.nextArrival := rfl
@[simp] theorem State.setLink_responses (s : State) (r : LinkPort) : (s.setLink r).responses = s.responses := rfl
@[simp] theorem State.setLink_drives (s : State) (r : LinkPort) : (s.setLink r).drives = s.drives := rfl
@[simp] theorem State.setLink_grantQueue (s : State) (r : LinkPort) : (s.setLink r).grantQueue = s.grantQueue := rfl
@[simp] theorem State.setLink_lineL0 (s : State) (r : LinkPort) : (s.setLink r).lineL0 = s.lineL0 := rfl
@[simp] theorem State.setLink_lineL1 (s : State) (r : LinkPort) : (s.setLink r).lineL1 = s.lineL1 := rfl
@[simp] theorem State.setLink_sweep (s : State) (r : LinkPort) : (s.setLink r).sweep = s.sweep := rfl
@[simp] theorem State.setLink_pending (s : State) (r : LinkPort) : (s.setLink r).pending = s.pending := rfl
@[simp] theorem State.setScanner_rstAsserted (s : State) (r : Scanner) : (s.setScanner r).rstAsserted = s.rstAsserted := rfl
@[simp] theorem State.setScanner_hrdy (s : State) (r : Scanner) : (s.setScanner r).hrdy = s.hrdy := rfl
@[simp] theorem State.setScanner_homeIn (s : State) (r : Scanner) : (s.setScanner r).homeIn = s.homeIn := rfl
@[simp] theorem State.setScanner_markIn (s : State) (r : Scanner) : (s.setScanner r).markIn = s.markIn := rfl
@[simp] theorem State.setScanner_seconds (s : State) (r : Scanner) : (s.setScanner r).seconds = s.seconds := rfl
@[simp] theorem State.setScanner_link (s : State) (r : Scanner) : (s.setScanner r).link = s.link := rfl
@[simp] theorem State.setScanner_scanner (s : State) (r : Scanner) : (s.setScanner r).scanner = r := rfl
@[simp] theorem State.setScanner_channels (s : State) (r : Scanner) : (s.setScanner r).channels = s.channels := rfl
@[simp] theorem State.setScanner_views (s : State) (r : Scanner) : (s.setScanner r).views = s.views := rfl
@[simp] theorem State.setScanner_zones (s : State) (r : Scanner) : (s.setScanner r).zones = s.zones := rfl
@[simp] theorem State.setScanner_bays (s : State) (r : Scanner) : (s.setScanner r).bays = s.bays := rfl
@[simp] theorem State.setScanner_targets (s : State) (r : Scanner) : (s.setScanner r).targets = s.targets := rfl
@[simp] theorem State.setScanner_pendingList (s : State) (r : Scanner) : (s.setScanner r).pendingList = s.pendingList := rfl
@[simp] theorem State.setScanner_nextArrival (s : State) (r : Scanner) : (s.setScanner r).nextArrival = s.nextArrival := rfl
@[simp] theorem State.setScanner_responses (s : State) (r : Scanner) : (s.setScanner r).responses = s.responses := rfl
@[simp] theorem State.setScanner_drives (s : State) (r : Scanner) : (s.setScanner r).drives = s.drives := rfl
@[simp] theorem State.setScanner_grantQueue (s : State) (r : Scanner) : (s.setScanner r).grantQueue = s.grantQueue := rfl
@[simp] theorem State.setScanner_lineL0 (s : State) (r : Scanner) : (s.setScanner r).lineL0 = s.lineL0 := rfl
@[simp] theorem State.setScanner_lineL1 (s : State) (r : Scanner) : (s.setScanner r).lineL1 = s.lineL1 := rfl
@[simp] theorem State.setScanner_sweep (s : State) (r : Scanner) : (s.setScanner r).sweep = s.sweep := rfl
@[simp] theorem State.setScanner_pending (s : State) (r : Scanner) : (s.setScanner r).pending = s.pending := rfl
@[simp] theorem State.setSweep_rstAsserted (s : State) (r : Sweep) : (s.setSweep r).rstAsserted = s.rstAsserted := rfl
@[simp] theorem State.setSweep_hrdy (s : State) (r : Sweep) : (s.setSweep r).hrdy = s.hrdy := rfl
@[simp] theorem State.setSweep_homeIn (s : State) (r : Sweep) : (s.setSweep r).homeIn = s.homeIn := rfl
@[simp] theorem State.setSweep_markIn (s : State) (r : Sweep) : (s.setSweep r).markIn = s.markIn := rfl
@[simp] theorem State.setSweep_seconds (s : State) (r : Sweep) : (s.setSweep r).seconds = s.seconds := rfl
@[simp] theorem State.setSweep_link (s : State) (r : Sweep) : (s.setSweep r).link = s.link := rfl
@[simp] theorem State.setSweep_scanner (s : State) (r : Sweep) : (s.setSweep r).scanner = s.scanner := rfl
@[simp] theorem State.setSweep_channels (s : State) (r : Sweep) : (s.setSweep r).channels = s.channels := rfl
@[simp] theorem State.setSweep_views (s : State) (r : Sweep) : (s.setSweep r).views = s.views := rfl
@[simp] theorem State.setSweep_zones (s : State) (r : Sweep) : (s.setSweep r).zones = s.zones := rfl
@[simp] theorem State.setSweep_bays (s : State) (r : Sweep) : (s.setSweep r).bays = s.bays := rfl
@[simp] theorem State.setSweep_targets (s : State) (r : Sweep) : (s.setSweep r).targets = s.targets := rfl
@[simp] theorem State.setSweep_pendingList (s : State) (r : Sweep) : (s.setSweep r).pendingList = s.pendingList := rfl
@[simp] theorem State.setSweep_nextArrival (s : State) (r : Sweep) : (s.setSweep r).nextArrival = s.nextArrival := rfl
@[simp] theorem State.setSweep_responses (s : State) (r : Sweep) : (s.setSweep r).responses = s.responses := rfl
@[simp] theorem State.setSweep_drives (s : State) (r : Sweep) : (s.setSweep r).drives = s.drives := rfl
@[simp] theorem State.setSweep_grantQueue (s : State) (r : Sweep) : (s.setSweep r).grantQueue = s.grantQueue := rfl
@[simp] theorem State.setSweep_lineL0 (s : State) (r : Sweep) : (s.setSweep r).lineL0 = s.lineL0 := rfl
@[simp] theorem State.setSweep_lineL1 (s : State) (r : Sweep) : (s.setSweep r).lineL1 = s.lineL1 := rfl
@[simp] theorem State.setSweep_sweep (s : State) (r : Sweep) : (s.setSweep r).sweep = r := rfl
@[simp] theorem State.setSweep_pending (s : State) (r : Sweep) : (s.setSweep r).pending = s.pending := rfl
@[simp] theorem State.setPendingList_rstAsserted (s : State) (r : List Entry) :
    (s.setPendingList r).rstAsserted = s.rstAsserted := rfl
@[simp] theorem State.setPendingList_hrdy (s : State) (r : List Entry) : (s.setPendingList r).hrdy = s.hrdy := rfl
@[simp] theorem State.setPendingList_homeIn (s : State) (r : List Entry) : (s.setPendingList r).homeIn = s.homeIn := rfl
@[simp] theorem State.setPendingList_markIn (s : State) (r : List Entry) : (s.setPendingList r).markIn = s.markIn := rfl
@[simp] theorem State.setPendingList_seconds (s : State) (r : List Entry) : (s.setPendingList r).seconds = s.seconds := rfl
@[simp] theorem State.setPendingList_link (s : State) (r : List Entry) : (s.setPendingList r).link = s.link := rfl
@[simp] theorem State.setPendingList_scanner (s : State) (r : List Entry) : (s.setPendingList r).scanner = s.scanner := rfl
@[simp] theorem State.setPendingList_channels (s : State) (r : List Entry) : (s.setPendingList r).channels = s.channels := rfl
@[simp] theorem State.setPendingList_views (s : State) (r : List Entry) : (s.setPendingList r).views = s.views := rfl
@[simp] theorem State.setPendingList_zones (s : State) (r : List Entry) : (s.setPendingList r).zones = s.zones := rfl
@[simp] theorem State.setPendingList_bays (s : State) (r : List Entry) : (s.setPendingList r).bays = s.bays := rfl
@[simp] theorem State.setPendingList_targets (s : State) (r : List Entry) : (s.setPendingList r).targets = s.targets := rfl
@[simp] theorem State.setPendingList_pendingList (s : State) (r : List Entry) : (s.setPendingList r).pendingList = r := rfl
@[simp] theorem State.setPendingList_nextArrival (s : State) (r : List Entry) :
    (s.setPendingList r).nextArrival = s.nextArrival := rfl
@[simp] theorem State.setPendingList_responses (s : State) (r : List Entry) : (s.setPendingList r).responses = s.responses := rfl
@[simp] theorem State.setPendingList_drives (s : State) (r : List Entry) : (s.setPendingList r).drives = s.drives := rfl
@[simp] theorem State.setPendingList_grantQueue (s : State) (r : List Entry) :
    (s.setPendingList r).grantQueue = s.grantQueue := rfl
@[simp] theorem State.setPendingList_lineL0 (s : State) (r : List Entry) : (s.setPendingList r).lineL0 = s.lineL0 := rfl
@[simp] theorem State.setPendingList_lineL1 (s : State) (r : List Entry) : (s.setPendingList r).lineL1 = s.lineL1 := rfl
@[simp] theorem State.setPendingList_sweep (s : State) (r : List Entry) : (s.setPendingList r).sweep = s.sweep := rfl
@[simp] theorem State.setPendingList_pending (s : State) (r : List Entry) : (s.setPendingList r).pending = s.pending := rfl
@[simp] theorem State.setGrantQueue_rstAsserted (s : State) (r : List BayId) :
    (s.setGrantQueue r).rstAsserted = s.rstAsserted := rfl
@[simp] theorem State.setGrantQueue_hrdy (s : State) (r : List BayId) : (s.setGrantQueue r).hrdy = s.hrdy := rfl
@[simp] theorem State.setGrantQueue_homeIn (s : State) (r : List BayId) : (s.setGrantQueue r).homeIn = s.homeIn := rfl
@[simp] theorem State.setGrantQueue_markIn (s : State) (r : List BayId) : (s.setGrantQueue r).markIn = s.markIn := rfl
@[simp] theorem State.setGrantQueue_seconds (s : State) (r : List BayId) : (s.setGrantQueue r).seconds = s.seconds := rfl
@[simp] theorem State.setGrantQueue_link (s : State) (r : List BayId) : (s.setGrantQueue r).link = s.link := rfl
@[simp] theorem State.setGrantQueue_scanner (s : State) (r : List BayId) : (s.setGrantQueue r).scanner = s.scanner := rfl
@[simp] theorem State.setGrantQueue_channels (s : State) (r : List BayId) : (s.setGrantQueue r).channels = s.channels := rfl
@[simp] theorem State.setGrantQueue_views (s : State) (r : List BayId) : (s.setGrantQueue r).views = s.views := rfl
@[simp] theorem State.setGrantQueue_zones (s : State) (r : List BayId) : (s.setGrantQueue r).zones = s.zones := rfl
@[simp] theorem State.setGrantQueue_bays (s : State) (r : List BayId) : (s.setGrantQueue r).bays = s.bays := rfl
@[simp] theorem State.setGrantQueue_targets (s : State) (r : List BayId) : (s.setGrantQueue r).targets = s.targets := rfl
@[simp] theorem State.setGrantQueue_pendingList (s : State) (r : List BayId) :
    (s.setGrantQueue r).pendingList = s.pendingList := rfl
@[simp] theorem State.setGrantQueue_nextArrival (s : State) (r : List BayId) :
    (s.setGrantQueue r).nextArrival = s.nextArrival := rfl
@[simp] theorem State.setGrantQueue_responses (s : State) (r : List BayId) : (s.setGrantQueue r).responses = s.responses := rfl
@[simp] theorem State.setGrantQueue_drives (s : State) (r : List BayId) : (s.setGrantQueue r).drives = s.drives := rfl
@[simp] theorem State.setGrantQueue_grantQueue (s : State) (r : List BayId) : (s.setGrantQueue r).grantQueue = r := rfl
@[simp] theorem State.setGrantQueue_lineL0 (s : State) (r : List BayId) : (s.setGrantQueue r).lineL0 = s.lineL0 := rfl
@[simp] theorem State.setGrantQueue_lineL1 (s : State) (r : List BayId) : (s.setGrantQueue r).lineL1 = s.lineL1 := rfl
@[simp] theorem State.setGrantQueue_sweep (s : State) (r : List BayId) : (s.setGrantQueue r).sweep = s.sweep := rfl
@[simp] theorem State.setGrantQueue_pending (s : State) (r : List BayId) : (s.setGrantQueue r).pending = s.pending := rfl
@[simp] theorem State.setLine_rstAsserted (s : State) (l : LineId) (r : Line) : (s.setLine l r).rstAsserted = s.rstAsserted := by
  cases l <;> rfl
@[simp] theorem State.setLine_hrdy (s : State) (l : LineId) (r : Line) : (s.setLine l r).hrdy = s.hrdy := by
  cases l <;> rfl
@[simp] theorem State.setLine_homeIn (s : State) (l : LineId) (r : Line) : (s.setLine l r).homeIn = s.homeIn := by
  cases l <;> rfl
@[simp] theorem State.setLine_markIn (s : State) (l : LineId) (r : Line) : (s.setLine l r).markIn = s.markIn := by
  cases l <;> rfl
@[simp] theorem State.setLine_seconds (s : State) (l : LineId) (r : Line) : (s.setLine l r).seconds = s.seconds := by
  cases l <;> rfl
@[simp] theorem State.setLine_link (s : State) (l : LineId) (r : Line) : (s.setLine l r).link = s.link := by
  cases l <;> rfl
@[simp] theorem State.setLine_scanner (s : State) (l : LineId) (r : Line) : (s.setLine l r).scanner = s.scanner := by
  cases l <;> rfl
@[simp] theorem State.setLine_channels (s : State) (l : LineId) (r : Line) : (s.setLine l r).channels = s.channels := by
  cases l <;> rfl
@[simp] theorem State.setLine_views (s : State) (l : LineId) (r : Line) : (s.setLine l r).views = s.views := by
  cases l <;> rfl
@[simp] theorem State.setLine_zones (s : State) (l : LineId) (r : Line) : (s.setLine l r).zones = s.zones := by
  cases l <;> rfl
@[simp] theorem State.setLine_bays (s : State) (l : LineId) (r : Line) : (s.setLine l r).bays = s.bays := by
  cases l <;> rfl
@[simp] theorem State.setLine_targets (s : State) (l : LineId) (r : Line) : (s.setLine l r).targets = s.targets := by
  cases l <;> rfl
@[simp] theorem State.setLine_pendingList (s : State) (l : LineId) (r : Line) : (s.setLine l r).pendingList = s.pendingList := by
  cases l <;> rfl
@[simp] theorem State.setLine_nextArrival (s : State) (l : LineId) (r : Line) : (s.setLine l r).nextArrival = s.nextArrival := by
  cases l <;> rfl
@[simp] theorem State.setLine_responses (s : State) (l : LineId) (r : Line) : (s.setLine l r).responses = s.responses := by
  cases l <;> rfl
@[simp] theorem State.setLine_drives (s : State) (l : LineId) (r : Line) : (s.setLine l r).drives = s.drives := by
  cases l <;> rfl
@[simp] theorem State.setLine_grantQueue (s : State) (l : LineId) (r : Line) : (s.setLine l r).grantQueue = s.grantQueue := by
  cases l <;> rfl
@[simp] theorem State.setLine_sweep (s : State) (l : LineId) (r : Line) : (s.setLine l r).sweep = s.sweep := by
  cases l <;> rfl
@[simp] theorem State.setLine_pending (s : State) (l : LineId) (r : Line) : (s.setLine l r).pending = s.pending := by
  cases l <;> rfl

/-! ### Readers after a write -/

@[simp] theorem State.zone_setZone_same (s : State) (z : ZoneId) (r : Zone) : (s.setZone z r).zone z = r :=
  get_set_same s.zones z r
theorem State.zone_setZone_other (s : State) (z : ZoneId) (r : Zone) (y : ZoneId) (h : y ≠ z) :
    (s.setZone z r).zone y = s.zone y := get_set_other s.zones z y r h
theorem State.zone_setZone (s : State) (z : ZoneId) (r : Zone) (y : ZoneId) :
    (s.setZone z r).zone y = if y = z then r else s.zone y := get_set s.zones z y r
@[simp] theorem State.bay_setZone (s : State) (z : ZoneId) (r : Zone) (y : BayId) : (s.setZone z r).bay y = s.bay y := rfl
@[simp] theorem State.target_setZone (s : State) (z : ZoneId) (r : Zone) (y : TargetId) :
    (s.setZone z r).target y = s.target y := rfl
@[simp] theorem State.drive_setZone (s : State) (z : ZoneId) (r : Zone) (y : BayId) : (s.setZone z r).drive y = s.drive y := rfl
@[simp] theorem State.channel_setZone (s : State) (z : ZoneId) (r : Zone) (y : ChannelId) :
    (s.setZone z r).channel y = s.channel y := rfl
@[simp] theorem State.view_setZone (s : State) (z : ZoneId) (r : Zone) (y : ChannelId) : (s.setZone z r).view y = s.view y := rfl
@[simp] theorem State.line_setZone (s : State) (z : ZoneId) (r : Zone) (l : LineId) :
    (s.setZone z r).line l = s.line l := by cases l <;> rfl
@[simp] theorem State.zone_setBay (s : State) (b : BayId) (r : Bay) (y : ZoneId) : (s.setBay b r).zone y = s.zone y := rfl
@[simp] theorem State.bay_setBay_same (s : State) (b : BayId) (r : Bay) : (s.setBay b r).bay b = r :=
  get_set_same s.bays b r
theorem State.bay_setBay_other (s : State) (b : BayId) (r : Bay) (y : BayId) (h : y ≠ b) :
    (s.setBay b r).bay y = s.bay y := get_set_other s.bays b y r h
theorem State.bay_setBay (s : State) (b : BayId) (r : Bay) (y : BayId) :
    (s.setBay b r).bay y = if y = b then r else s.bay y := get_set s.bays b y r
@[simp] theorem State.target_setBay (s : State) (b : BayId) (r : Bay) (y : TargetId) : (s.setBay b r).target y = s.target y := rfl
@[simp] theorem State.drive_setBay (s : State) (b : BayId) (r : Bay) (y : BayId) : (s.setBay b r).drive y = s.drive y := rfl
@[simp] theorem State.channel_setBay (s : State) (b : BayId) (r : Bay) (y : ChannelId) :
    (s.setBay b r).channel y = s.channel y := rfl
@[simp] theorem State.view_setBay (s : State) (b : BayId) (r : Bay) (y : ChannelId) : (s.setBay b r).view y = s.view y := rfl
@[simp] theorem State.line_setBay (s : State) (b : BayId) (r : Bay) (l : LineId) :
    (s.setBay b r).line l = s.line l := by cases l <;> rfl
@[simp] theorem State.zone_setTarget (s : State) (t : TargetId) (r : Target) (y : ZoneId) :
    (s.setTarget t r).zone y = s.zone y := rfl
@[simp] theorem State.bay_setTarget (s : State) (t : TargetId) (r : Target) (y : BayId) : (s.setTarget t r).bay y = s.bay y := rfl
@[simp] theorem State.target_setTarget_same (s : State) (t : TargetId) (r : Target) : (s.setTarget t r).target t = r :=
  get_set_same s.targets t r
theorem State.target_setTarget_other (s : State) (t : TargetId) (r : Target) (y : TargetId) (h : y ≠ t) :
    (s.setTarget t r).target y = s.target y := get_set_other s.targets t y r h
theorem State.target_setTarget (s : State) (t : TargetId) (r : Target) (y : TargetId) :
    (s.setTarget t r).target y = if y = t then r else s.target y := get_set s.targets t y r
@[simp] theorem State.drive_setTarget (s : State) (t : TargetId) (r : Target) (y : BayId) :
    (s.setTarget t r).drive y = s.drive y := rfl
@[simp] theorem State.channel_setTarget (s : State) (t : TargetId) (r : Target) (y : ChannelId) :
    (s.setTarget t r).channel y = s.channel y := rfl
@[simp] theorem State.view_setTarget (s : State) (t : TargetId) (r : Target) (y : ChannelId) :
    (s.setTarget t r).view y = s.view y := rfl
@[simp] theorem State.line_setTarget (s : State) (t : TargetId) (r : Target) (l : LineId) :
    (s.setTarget t r).line l = s.line l := by cases l <;> rfl
@[simp] theorem State.zone_setDrive (s : State) (b : BayId) (r : Drive) (y : ZoneId) : (s.setDrive b r).zone y = s.zone y := rfl
@[simp] theorem State.bay_setDrive (s : State) (b : BayId) (r : Drive) (y : BayId) : (s.setDrive b r).bay y = s.bay y := rfl
@[simp] theorem State.target_setDrive (s : State) (b : BayId) (r : Drive) (y : TargetId) :
    (s.setDrive b r).target y = s.target y := rfl
@[simp] theorem State.drive_setDrive_same (s : State) (b : BayId) (r : Drive) : (s.setDrive b r).drive b = r :=
  get_set_same s.drives b r
theorem State.drive_setDrive_other (s : State) (b : BayId) (r : Drive) (y : BayId) (h : y ≠ b) :
    (s.setDrive b r).drive y = s.drive y := get_set_other s.drives b y r h
theorem State.drive_setDrive (s : State) (b : BayId) (r : Drive) (y : BayId) :
    (s.setDrive b r).drive y = if y = b then r else s.drive y := get_set s.drives b y r
@[simp] theorem State.channel_setDrive (s : State) (b : BayId) (r : Drive) (y : ChannelId) :
    (s.setDrive b r).channel y = s.channel y := rfl
@[simp] theorem State.view_setDrive (s : State) (b : BayId) (r : Drive) (y : ChannelId) :
    (s.setDrive b r).view y = s.view y := rfl
@[simp] theorem State.line_setDrive (s : State) (b : BayId) (r : Drive) (l : LineId) :
    (s.setDrive b r).line l = s.line l := by cases l <;> rfl
@[simp] theorem State.zone_setChannel (s : State) (c : ChannelId) (r : Channel) (y : ZoneId) :
    (s.setChannel c r).zone y = s.zone y := rfl
@[simp] theorem State.bay_setChannel (s : State) (c : ChannelId) (r : Channel) (y : BayId) :
    (s.setChannel c r).bay y = s.bay y := rfl
@[simp] theorem State.target_setChannel (s : State) (c : ChannelId) (r : Channel) (y : TargetId) :
    (s.setChannel c r).target y = s.target y := rfl
@[simp] theorem State.drive_setChannel (s : State) (c : ChannelId) (r : Channel) (y : BayId) :
    (s.setChannel c r).drive y = s.drive y := rfl
@[simp] theorem State.channel_setChannel_same (s : State) (c : ChannelId) (r : Channel) : (s.setChannel c r).channel c = r :=
  get_set_same s.channels c r
theorem State.channel_setChannel_other (s : State) (c : ChannelId) (r : Channel) (y : ChannelId) (h : y ≠ c) :
    (s.setChannel c r).channel y = s.channel y := get_set_other s.channels c y r h
theorem State.channel_setChannel (s : State) (c : ChannelId) (r : Channel) (y : ChannelId) :
    (s.setChannel c r).channel y = if y = c then r else s.channel y := get_set s.channels c y r
@[simp] theorem State.view_setChannel (s : State) (c : ChannelId) (r : Channel) (y : ChannelId) :
    (s.setChannel c r).view y = s.view y := rfl
@[simp] theorem State.line_setChannel (s : State) (c : ChannelId) (r : Channel) (l : LineId) :
    (s.setChannel c r).line l = s.line l := by cases l <;> rfl
@[simp] theorem State.zone_setView (s : State) (c : ChannelId) (r : ChannelView) (y : ZoneId) :
    (s.setView c r).zone y = s.zone y := rfl
@[simp] theorem State.bay_setView (s : State) (c : ChannelId) (r : ChannelView) (y : BayId) :
    (s.setView c r).bay y = s.bay y := rfl
@[simp] theorem State.target_setView (s : State) (c : ChannelId) (r : ChannelView) (y : TargetId) :
    (s.setView c r).target y = s.target y := rfl
@[simp] theorem State.drive_setView (s : State) (c : ChannelId) (r : ChannelView) (y : BayId) :
    (s.setView c r).drive y = s.drive y := rfl
@[simp] theorem State.channel_setView (s : State) (c : ChannelId) (r : ChannelView) (y : ChannelId) :
    (s.setView c r).channel y = s.channel y := rfl
@[simp] theorem State.view_setView_same (s : State) (c : ChannelId) (r : ChannelView) : (s.setView c r).view c = r :=
  get_set_same s.views c r
theorem State.view_setView_other (s : State) (c : ChannelId) (r : ChannelView) (y : ChannelId) (h : y ≠ c) :
    (s.setView c r).view y = s.view y := get_set_other s.views c y r h
theorem State.view_setView (s : State) (c : ChannelId) (r : ChannelView) (y : ChannelId) :
    (s.setView c r).view y = if y = c then r else s.view y := get_set s.views c y r
@[simp] theorem State.line_setView (s : State) (c : ChannelId) (r : ChannelView) (l : LineId) :
    (s.setView c r).line l = s.line l := by cases l <;> rfl
@[simp] theorem State.zone_setLink (s : State) (r : LinkPort) (y : ZoneId) : (s.setLink r).zone y = s.zone y := rfl
@[simp] theorem State.bay_setLink (s : State) (r : LinkPort) (y : BayId) : (s.setLink r).bay y = s.bay y := rfl
@[simp] theorem State.target_setLink (s : State) (r : LinkPort) (y : TargetId) : (s.setLink r).target y = s.target y := rfl
@[simp] theorem State.drive_setLink (s : State) (r : LinkPort) (y : BayId) : (s.setLink r).drive y = s.drive y := rfl
@[simp] theorem State.channel_setLink (s : State) (r : LinkPort) (y : ChannelId) : (s.setLink r).channel y = s.channel y := rfl
@[simp] theorem State.view_setLink (s : State) (r : LinkPort) (y : ChannelId) : (s.setLink r).view y = s.view y := rfl
@[simp] theorem State.line_setLink (s : State) (r : LinkPort) (l : LineId) : (s.setLink r).line l = s.line l := by cases l <;> rfl
@[simp] theorem State.zone_setScanner (s : State) (r : Scanner) (y : ZoneId) : (s.setScanner r).zone y = s.zone y := rfl
@[simp] theorem State.bay_setScanner (s : State) (r : Scanner) (y : BayId) : (s.setScanner r).bay y = s.bay y := rfl
@[simp] theorem State.target_setScanner (s : State) (r : Scanner) (y : TargetId) : (s.setScanner r).target y = s.target y := rfl
@[simp] theorem State.drive_setScanner (s : State) (r : Scanner) (y : BayId) : (s.setScanner r).drive y = s.drive y := rfl
@[simp] theorem State.channel_setScanner (s : State) (r : Scanner) (y : ChannelId) :
    (s.setScanner r).channel y = s.channel y := rfl
@[simp] theorem State.view_setScanner (s : State) (r : Scanner) (y : ChannelId) : (s.setScanner r).view y = s.view y := rfl
@[simp] theorem State.line_setScanner (s : State) (r : Scanner) (l : LineId) :
    (s.setScanner r).line l = s.line l := by cases l <;> rfl
@[simp] theorem State.zone_setSweep (s : State) (r : Sweep) (y : ZoneId) : (s.setSweep r).zone y = s.zone y := rfl
@[simp] theorem State.bay_setSweep (s : State) (r : Sweep) (y : BayId) : (s.setSweep r).bay y = s.bay y := rfl
@[simp] theorem State.target_setSweep (s : State) (r : Sweep) (y : TargetId) : (s.setSweep r).target y = s.target y := rfl
@[simp] theorem State.drive_setSweep (s : State) (r : Sweep) (y : BayId) : (s.setSweep r).drive y = s.drive y := rfl
@[simp] theorem State.channel_setSweep (s : State) (r : Sweep) (y : ChannelId) : (s.setSweep r).channel y = s.channel y := rfl
@[simp] theorem State.view_setSweep (s : State) (r : Sweep) (y : ChannelId) : (s.setSweep r).view y = s.view y := rfl
@[simp] theorem State.line_setSweep (s : State) (r : Sweep) (l : LineId) : (s.setSweep r).line l = s.line l := by cases l <;> rfl
@[simp] theorem State.zone_setPendingList (s : State) (r : List Entry) (y : ZoneId) :
    (s.setPendingList r).zone y = s.zone y := rfl
@[simp] theorem State.bay_setPendingList (s : State) (r : List Entry) (y : BayId) : (s.setPendingList r).bay y = s.bay y := rfl
@[simp] theorem State.target_setPendingList (s : State) (r : List Entry) (y : TargetId) :
    (s.setPendingList r).target y = s.target y := rfl
@[simp] theorem State.drive_setPendingList (s : State) (r : List Entry) (y : BayId) :
    (s.setPendingList r).drive y = s.drive y := rfl
@[simp] theorem State.channel_setPendingList (s : State) (r : List Entry) (y : ChannelId) :
    (s.setPendingList r).channel y = s.channel y := rfl
@[simp] theorem State.view_setPendingList (s : State) (r : List Entry) (y : ChannelId) :
    (s.setPendingList r).view y = s.view y := rfl
@[simp] theorem State.line_setPendingList (s : State) (r : List Entry) (l : LineId) :
    (s.setPendingList r).line l = s.line l := by cases l <;> rfl
@[simp] theorem State.zone_setGrantQueue (s : State) (r : List BayId) (y : ZoneId) : (s.setGrantQueue r).zone y = s.zone y := rfl
@[simp] theorem State.bay_setGrantQueue (s : State) (r : List BayId) (y : BayId) : (s.setGrantQueue r).bay y = s.bay y := rfl
@[simp] theorem State.target_setGrantQueue (s : State) (r : List BayId) (y : TargetId) :
    (s.setGrantQueue r).target y = s.target y := rfl
@[simp] theorem State.drive_setGrantQueue (s : State) (r : List BayId) (y : BayId) :
    (s.setGrantQueue r).drive y = s.drive y := rfl
@[simp] theorem State.channel_setGrantQueue (s : State) (r : List BayId) (y : ChannelId) :
    (s.setGrantQueue r).channel y = s.channel y := rfl
@[simp] theorem State.view_setGrantQueue (s : State) (r : List BayId) (y : ChannelId) :
    (s.setGrantQueue r).view y = s.view y := rfl
@[simp] theorem State.line_setGrantQueue (s : State) (r : List BayId) (l : LineId) :
    (s.setGrantQueue r).line l = s.line l := by cases l <;> rfl
@[simp] theorem State.zone_setLine (s : State) (l : LineId) (r : Line) (y : ZoneId) : (s.setLine l r).zone y = s.zone y := by
  cases l <;> rfl
@[simp] theorem State.bay_setLine (s : State) (l : LineId) (r : Line) (y : BayId) : (s.setLine l r).bay y = s.bay y := by
  cases l <;> rfl
@[simp] theorem State.target_setLine (s : State) (l : LineId) (r : Line) (y : TargetId) :
    (s.setLine l r).target y = s.target y := by
  cases l <;> rfl
@[simp] theorem State.drive_setLine (s : State) (l : LineId) (r : Line) (y : BayId) : (s.setLine l r).drive y = s.drive y := by
  cases l <;> rfl
@[simp] theorem State.channel_setLine (s : State) (l : LineId) (r : Line) (y : ChannelId) :
    (s.setLine l r).channel y = s.channel y := by
  cases l <;> rfl
@[simp] theorem State.view_setLine (s : State) (l : LineId) (r : Line) (y : ChannelId) : (s.setLine l r).view y = s.view y := by
  cases l <;> rfl
@[simp] theorem State.line_setLine_same (s : State) (l : LineId) (r : Line) : (s.setLine l r).line l = r := by
  cases l <;> rfl
theorem State.line_setLine_other (s : State) (l m : LineId) (r : Line) (h : m ≠ l) : (s.setLine l r).line m = s.line m := by
  cases l <;> cases m <;> first | rfl | exact absurd rfl h
@[simp] theorem State.lum_setLum_same (s : State) (l : LineId) (a : Address) (r : Luminaire) : (s.setLum l a r).lum l a = r := by
  simp only [State.lum, State.setLum, State.line_setLine_same]
  exact get_set_same _ a r

end Sys2Proof.Machine
end

