-- ==== Sys2Proof/Laws/Lists.lean ====
section
/-! SUPPORT. The index lists of Ops: every index stands in them, once, in ascending order. -/

namespace Sys2Proof.Machine

open Sys2Proof

theorem mem_allIds : {n : Nat} → (i : Fin n) → i ∈ allIds n
  | 0, i => i.elim0
  | n + 1, i => by
    rcases Fin.eq_zero_or_eq_succ i with h | ⟨j, h⟩
    · subst h; exact List.mem_cons_self
    · subst h; exact List.mem_cons_of_mem _ (List.mem_map_of_mem (mem_allIds j))

theorem allIds_eq_finRange : (n : Nat) → allIds n = List.finRange n
  | 0 => rfl
  | n + 1 => by rw [List.finRange_succ, allIds, allIds_eq_finRange n]

theorem allIds_nodup (n : Nat) : (allIds n).Nodup := by
  rw [allIds_eq_finRange]; exact List.nodup_finRange n

/-- A fold of state changes keeps what each of them keeps. -/
theorem foldl_keeps {α : Type} (P : State → Prop) (f : State → α → State) (h : ∀ s a, P s → P (f s a)) :
    (l : List α) → (s : State) → P s → P (l.foldl f s)
  | [], _, hs => hs
  | a :: l, s, hs => foldl_keeps P f h l (f s a) (h s a hs)

end Sys2Proof.Machine
end

