-- ==== Sys2Proof/Laws/Marks.lean ====
section
/-! SUPPORT. A line's list of waiting luminaires (R152, R153): marking and placing keep it right and
leave the rest of the line alone. -/

namespace Sys2Proof.Machine

open Sys2Proof

/-- Everything of a line but its list and the dirty marks of its luminaires is the same, and no dirty mark is cleared. -/
structure Line.SameEngine (r x : Line) : Prop where
  state : x.state = r.state
  transaction : x.transaction = r.transaction
  answerTimer : x.answerTimer = r.answerTimer
  auditTimer : x.auditTimer = r.auditTimer
  auditOwed : x.auditOwed = r.auditOwed
  cursor : x.cursor = r.cursor
  lums : ∀ a, x.lum a = { r.lum a with dirty := (x.lum a).dirty }
  dirty : ∀ a, (r.lum a).dirty = true → (x.lum a).dirty = true

theorem Line.SameEngine.refl (r : Line) : r.SameEngine r :=
  ⟨rfl, rfl, rfl, rfl, rfl, rfl, fun _ => rfl, fun _ h => h⟩

theorem Line.SameEngine.trans {r x y : Line} (h : r.SameEngine x) (k : x.SameEngine y) : r.SameEngine y :=
  ⟨k.state.trans h.state, k.transaction.trans h.transaction, k.answerTimer.trans h.answerTimer,
    k.auditTimer.trans h.auditTimer, k.auditOwed.trans h.auditOwed, k.cursor.trans h.cursor,
    fun a => by rw [k.lums a, h.lums a], fun a d => k.dirty a (h.dirty a d)⟩

@[simp] theorem Line.lum_setLum_same (r : Line) (a : Address) (v : Luminaire) : (r.setLum a v).lum a = v :=
  get_set_same r.lums a v

theorem Line.lum_setLum_other (r : Line) (a b : Address) (v : Luminaire) (h : b ≠ a) : (r.setLum a v).lum b = r.lum b :=
  get_set_other r.lums a b v h

@[simp] theorem Line.setLum_list (r : Line) (a : Address) (v : Luminaire) : (r.setLum a v).list = r.list := rfl

@[simp] theorem Line.inFlight_setLum (r : Line) (a b : Address) (v : Luminaire) :
    (r.setLum a v).inFlight b = r.inFlight b := rfl

theorem Line.place_engine (r : Line) (a : Address) : r.SameEngine (r.place a) := by
  unfold Line.place; split <;> exact ⟨rfl, rfl, rfl, rfl, rfl, rfl, fun _ => rfl, fun _ h => h⟩

theorem Line.place_lums (r : Line) (a : Address) : (r.place a).lums = r.lums := by
  unfold Line.place; split <;> rfl

/-- Setting a dirty mark is all that marking changes in a record. -/
theorem Line.setDirty_engine (r : Line) (a : Address) : r.SameEngine (r.setLum a { r.lum a with dirty := true }) := by
  refine ⟨rfl, rfl, rfl, rfl, rfl, rfl, fun b => ?_, fun b d => ?_⟩
  · by_cases e : b = a
    · subst e; rw [Line.lum_setLum_same]
    · rw [Line.lum_setLum_other _ _ _ _ e]
  · by_cases e : b = a
    · subst e; rw [Line.lum_setLum_same]
    · rw [Line.lum_setLum_other _ _ _ _ e]; exact d

theorem Line.mark_engine (r : Line) (a : Address) : r.SameEngine (r.mark a) := by
  unfold Line.mark; split
  · exact (Line.setDirty_engine r a).trans (Line.place_engine _ a)
  · exact Line.SameEngine.refl r

/-- Placing one luminaire makes the list right when it was right for every other one. -/
theorem Line.place_listed {r : Line} {a : Address} (nodup : r.list.Nodup)
    (others : ∀ b, b ≠ a → (b ∈ r.list ↔ r.waits b = true)) (here : a ∈ r.list → r.waits a = true) :
    (r.place a).Listed := by
  unfold Line.place
  split
  · next h =>
    simp only [Bool.and_eq_true, Bool.not_eq_true', bne_iff_ne, ne_eq] at h
    obtain ⟨⟨⟨hd, hl⟩, hm⟩, hf⟩ := h
    have hn : a ∉ r.list := by simpa [List.contains_iff_mem] using hl
    have hw : r.waits a = true := by simp [Line.waits, hd, hm, hf]
    refine ⟨?_, ?_⟩
    · simp only [List.nodup_append, List.nodup_cons, List.not_mem_nil, not_false_eq_true, List.nodup_nil, and_self,
        nodup, true_and]
      intro x hx y hy e
      rw [List.mem_singleton] at hy
      exact hn (hy ▸ e ▸ hx)
    · intro b
      show b ∈ r.list ++ [a] ↔ r.waits b = true
      by_cases e : b = a
      · subst e; simp [hw]
      · simp [e, others b e]
  · next h =>
    refine ⟨nodup, ?_⟩
    intro b
    by_cases e : b = a
    · subst e
      refine ⟨here, fun hw => ?_⟩
      simp only [Line.waits, Bool.and_eq_true] at hw
      by_contra hn
      apply h
      simp only [Bool.and_eq_true]
      exact ⟨⟨⟨hw.1.1, by simpa [List.contains_iff_mem] using hn⟩, hw.1.2⟩, hw.2⟩
    · exact others b e

theorem Line.mark_listed {r : Line} (h : r.Listed) (a : Address) : (r.mark a).Listed := by
  unfold Line.mark
  split
  · apply Line.place_listed (r := r.setLum a { r.lum a with dirty := true }) h.nodup
    · intro b e
      have := h.listed b
      simpa [Line.waits, Line.lum_setLum_other _ _ _ _ e] using this
    · intro hm
      have := (h.listed a).1 hm
      simp only [Line.waits, Bool.and_eq_true] at this
      simpa [Line.waits] using And.intro this.1.2 this.2
  · exact h

theorem Line.markZone_keeps (P : Line → Prop) (h : ∀ r a, P r → P (r.mark a)) (r : Line) (z : ZoneId) (hr : P r) :
    P (r.markZone z) := by
  unfold Line.markZone
  generalize allIds 96 = l
  induction l generalizing r with
  | nil => exact hr
  | cons a l ih =>
    simp only [List.foldl_cons]
    apply ih
    split
    · exact h r a hr
    · exact hr

theorem Line.markZone_listed {r : Line} (h : r.Listed) (z : ZoneId) : (r.markZone z).Listed :=
  Line.markZone_keeps Line.Listed (fun _ a h => Line.mark_listed h a) r z h

theorem Line.markZone_engine (r : Line) (z : ZoneId) : r.SameEngine (r.markZone z) :=
  Line.markZone_keeps (fun x => r.SameEngine x) (fun _ _ h => h.trans (Line.mark_engine _ _)) r z (Line.SameEngine.refl r)

/-! ### Marking both lines -/

@[simp] theorem markZone_rstAsserted (z : ZoneId) (s : State) : (markZone z s).rstAsserted = s.rstAsserted := by simp only [markZone]
@[simp] theorem markZone_hrdy (z : ZoneId) (s : State) : (markZone z s).hrdy = s.hrdy := by simp only [markZone]
@[simp] theorem markZone_homeIn (z : ZoneId) (s : State) : (markZone z s).homeIn = s.homeIn := by simp only [markZone]
@[simp] theorem markZone_markIn (z : ZoneId) (s : State) : (markZone z s).markIn = s.markIn := by simp only [markZone]
@[simp] theorem markZone_seconds (z : ZoneId) (s : State) : (markZone z s).seconds = s.seconds := by simp only [markZone]
@[simp] theorem markZone_link (z : ZoneId) (s : State) : (markZone z s).link = s.link := by simp only [markZone]
@[simp] theorem markZone_scanner (z : ZoneId) (s : State) : (markZone z s).scanner = s.scanner := by simp only [markZone]
@[simp] theorem markZone_channels (z : ZoneId) (s : State) : (markZone z s).channels = s.channels := by simp only [markZone]
@[simp] theorem markZone_views (z : ZoneId) (s : State) : (markZone z s).views = s.views := by simp only [markZone]
@[simp] theorem markZone_zones (z : ZoneId) (s : State) : (markZone z s).zones = s.zones := by simp only [markZone]
@[simp] theorem markZone_bays (z : ZoneId) (s : State) : (markZone z s).bays = s.bays := by simp only [markZone]
@[simp] theorem markZone_targets (z : ZoneId) (s : State) : (markZone z s).targets = s.targets := by simp only [markZone]
@[simp] theorem markZone_pendingList (z : ZoneId) (s : State) : (markZone z s).pendingList = s.pendingList := by simp only [markZone]
@[simp] theorem markZone_nextArrival (z : ZoneId) (s : State) : (markZone z s).nextArrival = s.nextArrival := by simp only [markZone]
@[simp] theorem markZone_responses (z : ZoneId) (s : State) : (markZone z s).responses = s.responses := by simp only [markZone]
@[simp] theorem markZone_drives (z : ZoneId) (s : State) : (markZone z s).drives = s.drives := by simp only [markZone]
@[simp] theorem markZone_grantQueue (z : ZoneId) (s : State) : (markZone z s).grantQueue = s.grantQueue := by simp only [markZone]
@[simp] theorem markZone_sweep (z : ZoneId) (s : State) : (markZone z s).sweep = s.sweep := by simp only [markZone]
@[simp] theorem markZone_pending (z : ZoneId) (s : State) : (markZone z s).pending = s.pending := by simp only [markZone]

theorem line_markZone (z : ZoneId) (s : State) (l : LineId) : (markZone z s).line l = (s.line l).markZone z := by
  cases l <;> simp only [markZone, State.line]

end Sys2Proof.Machine
end

