-- ==== Sys2Proof/Laws/Within.lean ====
section
/-! SUPPORT. What the blocks can do to one another inside one event: `Within s t` says everything that no hand-off, raise, claim,
notice or movement of a drive changes, and one lemma for each shared operation says that it stays within. Each is stated after
the state it is applied to, so that a chain of operations is one chain of lemmas. -/

namespace Sys2Proof.Machine

open Sys2Proof

/-- `t` comes from `s` by operations of the blocks on one another: the pins, the seconds counter, the Response Table, the
waiting commands, the Scanner, the receiver, the inbound stores, the frame being sent and the engines' transactions are as they
were; the configured records, the target states and the WATCH marks are as they were; the Report Queue has only grown, within
its bound; each line's list is right if it was. -/
structure Within (s t : State) : Prop where
  rstAsserted : t.rstAsserted = s.rstAsserted
  hrdy : t.hrdy = s.hrdy
  homeIn : t.homeIn = s.homeIn
  markIn : t.markIn = s.markIn
  seconds : t.seconds = s.seconds
  responses : t.responses = s.responses
  pending : t.pending = s.pending
  nextArrival : t.nextArrival = s.nextArrival
  scanner : t.scanner = s.scanner
  channels : t.channels = s.channels
  views : t.views = s.views
  receiver : t.link.receiver = s.link.receiver
  gapTimer : t.link.gapTimer = s.link.gapTimer
  inbound : t.link.inbound = s.link.inbound
  mailbox : t.link.mailbox = s.link.mailbox
  sending : t.link.sending = s.link.sending
  threshold : t.link.threshold = s.link.threshold
  auditInterval : t.link.auditInterval = s.link.auditInterval
  grown : s.link.reports <+: t.link.reports
  bounded : s.link.reports.length ≤ Config.reportCap → t.link.reports.length ≤ Config.reportCap
  zoneCfg : ∀ z, (t.zone z).cfg = (s.zone z).cfg
  bayCfg : ∀ b, (t.bay b).cfg = (s.bay b).cfg
  targetState : ∀ x, (t.target x).state = (s.target x).state
  watch : ∀ x, (t.target x).watch = (s.target x).watch
  engine : ∀ l, (s.line l).SameEngine (t.line l)
  listed : ∀ l, (s.line l).Listed → (t.line l).Listed

/-- The end of a claim that a caller supplies stays within. -/
def Finisher.Stays (fin : Finisher) : Prop := ∀ t c s u, Within s u → Within s (fin t c u)

theorem Within.refl (s : State) : Within s s := by
  constructor
  case engine => exact fun _ => Line.SameEngine.refl _
  all_goals simp

theorem Within.trans {s t u : State} (h : Within s t) (k : Within t u) : Within s u :=
  ⟨k.rstAsserted.trans h.rstAsserted, k.hrdy.trans h.hrdy, k.homeIn.trans h.homeIn, k.markIn.trans h.markIn,
    k.seconds.trans h.seconds, k.responses.trans h.responses, k.pending.trans h.pending,
    k.nextArrival.trans h.nextArrival, k.scanner.trans h.scanner, k.channels.trans h.channels, k.views.trans h.views,
    k.receiver.trans h.receiver, k.gapTimer.trans h.gapTimer, k.inbound.trans h.inbound, k.mailbox.trans h.mailbox,
    k.sending.trans h.sending, k.threshold.trans h.threshold, k.auditInterval.trans h.auditInterval,
    h.grown.trans k.grown, fun b => k.bounded (h.bounded b), fun z => (k.zoneCfg z).trans (h.zoneCfg z),
    fun b => (k.bayCfg b).trans (h.bayCfg b), fun x => (k.targetState x).trans (h.targetState x),
    fun x => (k.watch x).trans (h.watch x), fun l => (h.engine l).trans (k.engine l),
    fun l b => k.listed l (h.listed l b)⟩

/-- A change that leaves alone what `Within` names is within. -/
theorem Within.of_same {s t : State} (rst : t.rstAsserted = s.rstAsserted) (hrdy : t.hrdy = s.hrdy)
    (homeIn : t.homeIn = s.homeIn) (markIn : t.markIn = s.markIn) (seconds : t.seconds = s.seconds)
    (responses : t.responses = s.responses) (pending : t.pending = s.pending) (nextArrival : t.nextArrival = s.nextArrival)
    (scanner : t.scanner = s.scanner) (channels : t.channels = s.channels) (views : t.views = s.views)
    (link : t.link = s.link) (zoneCfg : ∀ z, (t.zone z).cfg = (s.zone z).cfg)
    (bayCfg : ∀ b, (t.bay b).cfg = (s.bay b).cfg) (targetState : ∀ x, (t.target x).state = (s.target x).state)
    (watch : ∀ x, (t.target x).watch = (s.target x).watch) (l0 : t.lineL0 = s.lineL0) (l1 : t.lineL1 = s.lineL1) : Within s t := by
  have hl : ∀ l, t.line l = s.line l := by intro l; cases l; exacts [l0, l1]
  constructor
  case engine => intro l; rw [hl]; exact Line.SameEngine.refl _
  case listed => intro l h; rw [hl]; exact h
  case bounded => rw [link]; exact id
  all_goals first | assumption | rw [link]

theorem Within.foldl {α : Type} {f : State → α → State} (hf : ∀ s u a, Within s u → Within s (f u a)) {s : State} :
    (l : List α) → (u : State) → Within s u → Within s (l.foldl f u)
  | [], _, h => h
  | a :: l, u, h => Within.foldl hf l (f u a) (hf s u a h)

/-! ### Writes of records -/

theorem Within.setZone {s t : State} (h : Within s t) (z : ZoneId) (r : Zone) (e : r.cfg = (t.zone z).cfg := by rfl) :
    Within s (t.setZone z r) :=
  h.trans (Within.of_same rfl rfl rfl rfl rfl rfl rfl rfl rfl rfl rfl rfl
    (fun y => by rw [State.zone_setZone]; split <;> simp_all) (fun _ => rfl) (fun _ => rfl) (fun _ => rfl) rfl rfl)

theorem Within.setBay {s t : State} (h : Within s t) (b : BayId) (r : Bay) (e : r.cfg = (t.bay b).cfg := by rfl) :
    Within s (t.setBay b r) :=
  h.trans (Within.of_same rfl rfl rfl rfl rfl rfl rfl rfl rfl rfl rfl rfl (fun _ => rfl)
    (fun y => by rw [State.bay_setBay]; split <;> simp_all) (fun _ => rfl) (fun _ => rfl) rfl rfl)

theorem Within.setTarget {s t : State} (h : Within s t) (x : TargetId) (r : Target)
    (e : r.state = (t.target x).state := by rfl) (e' : r.watch = (t.target x).watch := by rfl) :
    Within s (t.setTarget x r) :=
  h.trans (Within.of_same rfl rfl rfl rfl rfl rfl rfl rfl rfl rfl rfl rfl (fun _ => rfl) (fun _ => rfl)
    (fun y => by rw [State.target_setTarget]; split <;> simp_all)
    (fun y => by rw [State.target_setTarget]; split <;> simp_all) rfl rfl)

theorem Within.setDrive {s t : State} (h : Within s t) (b : BayId) (r : Drive) : Within s (t.setDrive b r) :=
  h.trans (Within.of_same rfl rfl rfl rfl rfl rfl rfl rfl rfl rfl rfl rfl (fun _ => rfl) (fun _ => rfl) (fun _ => rfl)
    (fun _ => rfl) rfl rfl)

theorem Within.setSweep {s t : State} (h : Within s t) (r : Sweep) : Within s (t.setSweep r) :=
  h.trans (Within.of_same rfl rfl rfl rfl rfl rfl rfl rfl rfl rfl rfl rfl (fun _ => rfl) (fun _ => rfl) (fun _ => rfl)
    (fun _ => rfl) rfl rfl)

theorem Within.setPendingList {s t : State} (h : Within s t) (r : List Entry) : Within s (t.setPendingList r) :=
  h.trans (Within.of_same rfl rfl rfl rfl rfl rfl rfl rfl rfl rfl rfl rfl (fun _ => rfl) (fun _ => rfl) (fun _ => rfl)
    (fun _ => rfl) rfl rfl)

theorem Within.setGrantQueue {s t : State} (h : Within s t) (r : List BayId) : Within s (t.setGrantQueue r) :=
  h.trans (Within.of_same rfl rfl rfl rfl rfl rfl rfl rfl rfl rfl rfl rfl (fun _ => rfl) (fun _ => rfl) (fun _ => rfl)
    (fun _ => rfl) rfl rfl)

theorem Within.markZone {s t : State} (h : Within s t) (z : ZoneId) : Within s (markZone z t) := by
  have engine : ∀ l, (t.line l).SameEngine ((Machine.markZone z t).line l) := by
    intro l; rw [line_markZone]; exact Line.markZone_engine _ z
  have listed : ∀ l, (t.line l).Listed → ((Machine.markZone z t).line l).Listed := by
    intro l hl; rw [line_markZone]; exact Line.markZone_listed hl z
  refine h.trans ?_
  constructor
  case engine => exact engine
  case listed => exact listed
  all_goals simp [State.zone, State.bay, State.target]

/-! ### Notices -/

/-- A change of the Report Queue, the Alarm Mailbox and the link flags that only appends to the queue, within its bound. -/
theorem Within.record {s t : State} (h : Within s t) (reports : List Record) (alarm : Option Record) (flags : LinkFlags)
    (grown : t.link.reports <+: reports)
    (bounded : t.link.reports.length ≤ Config.reportCap → reports.length ≤ Config.reportCap) :
    Within s (t.setLink { t.link with reports := reports, alarm := alarm, flags := flags }) := by
  refine h.trans ?_
  constructor
  case grown => exact grown
  case bounded => exact bounded
  case engine => intro l; cases l <;> exact Line.SameEngine.refl _
  case listed => intro l hl; cases l <;> exact hl
  all_goals first | rfl | exact fun _ => rfl

theorem Within.setReportLost {s t : State} (h : Within s t) : Within s (setReportLost t) :=
  h.record _ _ _ (List.prefix_refl _) id

/-- A record appended to a Report Queue with room. -/
theorem Within.append {s t : State} (h : Within s t) (r : Record) (room : t.link.reports.length < Config.reportCap) :
    Within s (t.setLink { t.link with reports := t.link.reports ++ [r] }) :=
  h.record _ _ _ (List.prefix_append _ _) fun _ => by
    simp only [List.length_append, List.length_singleton]; omega

theorem Within.offerNotice {s t : State} (h : Within s t) (r : Record) : Within s (offerNotice r t) := by
  unfold Machine.offerNotice
  split
  · next room => exact h.append r room
  · exact h.setReportLost

theorem Within.offerAlarm {s t : State} (h : Within s t) (r : Record) : Within s (offerAlarm r t) := by
  unfold Machine.offerAlarm
  split
  · exact h.record _ _ _ (List.prefix_refl _) id
  · exact h.offerNotice r

/-! ### Zone loop -/

@[simp] theorem Zone.settleRamp_cfg (r : Zone) : r.settleRamp.cfg = r.cfg := by
  unfold Zone.settleRamp; repeat' split
  all_goals rfl

@[simp] theorem Zone.correct_cfg (r : Zone) (m : Nat) : (r.correct m).cfg = r.cfg := by
  unfold Zone.correct; dsimp only; split
  · rfl
  · simp

@[simp] theorem Zone.takeContext_cfg (r : Zone) (c : Context) : (r.takeContext c).cfg = r.cfg := by
  unfold Zone.takeContext; dsimp only; repeat' split
  all_goals first | rfl | simp

@[simp] theorem Zone.rampTick_cfg (r : Zone) : r.rampTick.cfg = r.cfg := by
  unfold Zone.rampTick; simp

theorem Within.putZone {s t : State} (h : Within s t) (z : ZoneId) (r : Zone) (e : r.cfg = (t.zone z).cfg := by simp) : Within s (putZone z r t) := by
  unfold Machine.putZone; split
  · exact h.setZone z r e
  · exact (h.setZone z r e).markZone z

theorem Within.governingSample {s t : State} (h : Within s t) (z : ZoneId) : Within s (governingSample z t) := by
  unfold Machine.governingSample; dsimp only; repeat' split
  exacts [h.setZone _ _ (Zone.correct_cfg _ _), h, h]

theorem Within.zoneMotionStart {s t : State} (h : Within s t) (z : ZoneId) : Within s (zoneMotionStart z t) := by
  unfold Machine.zoneMotionStart; split
  exacts [h.setZone _ _, h]

theorem Within.zoneMotionEnd {s t : State} (h : Within s t) (z : ZoneId) : Within s (zoneMotionEnd z t) := by
  unfold Machine.zoneMotionEnd; split
  exacts [h.setZone _ _, h]

/-! ### Request Arbiter -/

theorem Within.contextNotice {s t : State} (h : Within s t) (x : TargetId) (f : RequestFate) (c : Context) :
    Within s (contextNotice x f c t) := by
  unfold Machine.contextNotice; split
  exacts [h.offerNotice _, h]

theorem Within.entryNotice {s t : State} (h : Within s t) (f : RequestFate) (e : Entry) : Within s (entryNotice f e t) :=
  h.offerNotice _

theorem Within.pushContext {s t : State} (h : Within s t) (x : TargetId) (c : Context) :
    Within s (pushContext x c t).1 := by
  unfold Machine.pushContext; dsimp only; repeat' split
  all_goals exact h.setTarget _ _

theorem Within.replaceActive {s t : State} (h : Within s t) (x : TargetId) (c : Context) :
    Within s (replaceActive x c t) := by
  unfold Machine.replaceActive; dsimp only; split
  exacts [h, (h.setTarget _ _).contextNotice _ _ _]

theorem Within.dropEntry {s t : State} (h : Within s t) (i : Nat) : Within s (dropEntry i t) := h.setPendingList _

theorem Within.offerUpTo {s : State} : (n : Nat) → {t : State} → Within s t → (x : TargetId) → Within s (offerUpTo n x t)
  | 0, _, h, _ => h
  | n + 1, t, h, x => by
    unfold Machine.offerUpTo; dsimp only; repeat' split
    · exact h
    · exact Within.offerUpTo n (((h.dropEntry _).pushContext _ _).entryNotice _ _) _
    · exact ((h.dropEntry _).pushContext _ _).entryNotice _ _
    · exact ((h.dropEntry _).replaceActive _ _).entryNotice _ _
    · exact h

theorem Within.offer {s t : State} (h : Within s t) (x : TargetId) : Within s (offer x t) := by
  unfold Machine.offer; split
  exacts [Within.offerUpTo _ h _, h]

theorem Within.pushClaim {s t : State} (h : Within s t) (x : TargetId) (c : Context) : Within s (pushClaim x c t) := by
  unfold Machine.pushClaim; dsimp only; split
  exacts [(h.pushContext _ _).offer _, h.pushContext _ _]

theorem Within.removeContexts {s t : State} (h : Within s t) (x : TargetId) (k : Context → Bool) :
    Within s (removeContexts x k t) := h.setTarget _ _

theorem Within.removeFaultContext {s t : State} (h : Within s t) (x : TargetId) : Within s (removeFaultContext x t) :=
  h.setTarget _ _

theorem Within.insertFault {s t : State} (h : Within s t) (x : TargetId) (k : Bool) : Within s (insertFault x k t) := by
  unfold Machine.insertFault; dsimp only; repeat' split
  exacts [(h.setTarget _ _).contextNotice _ _ _, h.setTarget _ _, h.setTarget _ _]

theorem Within.lockTarget {s t : State} (h : Within s t) (x : TargetId) : Within s (lockTarget x t) := by
  unfold Machine.lockTarget; dsimp only
  have hg := Within.foldl (fun s u e h => Within.entryNotice h .discarded e)
    (t.pendingList.filter fun e => e.target == x) _ (h.setPendingList (t.pendingList.filter fun e => e.target != x))
  refine Within.foldl (fun s u c h => Within.contextNotice h x .discarded c) _ _ (Within.setTarget ?_ _ _)
  split
  exacts [hg, hg.insertFault _ _]

/-! ### Fault Unit -/

theorem Within.routeFault {s t : State} (h : Within s t) (n : FaultNotice) : Within s (routeFault n t) := by
  unfold Machine.routeFault; split
  exacts [h.offerAlarm _, h.offerNotice _]

theorem Within.noteRaise {s t : State} (h : Within s t) (x : TargetId) (r : Raise) : Within s (noteRaise x r t) :=
  (h.setTarget _ _).routeFault _

theorem Within.insertionClaim {s t : State} (h : Within s t) (x : TargetId) : Within s (insertionClaim x t) := by
  unfold Machine.insertionClaim; dsimp only; split
  exacts [(h.insertFault _ _).offer _, h.insertFault _ _]

theorem Within.raiseFault {fin : Finisher} (hf : fin.Stays) {s t : State} (h : Within s t) (x : TargetId) (r : Raise) :
    Within s (raiseFault fin x r t) := by
  unfold Machine.raiseFault; dsimp only; split
  exacts [h.noteRaise _ _, hf _ _ _ _ ((h.noteRaise _ _).insertionClaim _), hf _ _ _ _ ((h.noteRaise _ _).lockTarget _)]

theorem Within.raiseUntargeted {s t : State} (h : Within s t) (r : Raise) : Within s (raiseUntargeted r t) :=
  h.routeFault _

theorem Within.clearRecord {s t : State} (h : Within s t) (x : TargetId) (c : ClearCause) (f : FaultRecord) :
    Within s (clearRecord x c f t) := (h.setTarget _ _).offerNotice _

theorem Within.removalClaim {s t : State} (h : Within s t) (x : TargetId) : Within s (removalClaim x t) := by
  unfold Machine.removalClaim; split
  exacts [(h.removeFaultContext _).offer _, h]

theorem Within.endReport {fin : Finisher} (hf : fin.Stays) {s t : State} (h : Within s t) (x : TargetId) (c : Condition) :
    Within s (endReport fin x c t) := by
  unfold Machine.endReport; dsimp only; repeat' split
  exacts [h, hf _ _ _ _ ((h.clearRecord _ _ _).removalClaim _), h.setTarget _ _, h]

theorem Within.closeWindow {fin : Finisher} (hf : fin.Stays) {s t : State} (h : Within s t) (x : TargetId) :
    Within s (closeWindow fin x t) := by
  unfold Machine.closeWindow; dsimp only; split
  exacts [hf _ _ _ _ ((h.setTarget _ _).offer _), h]

/-! ### Drives -/

theorem Within.giveGrant {s t : State} (h : Within s t) (b : BayId) : Within s (giveGrant b t) := h.setDrive _ _

theorem Within.askPower {s t : State} (h : Within s t) (b : BayId) : Within s (askPower b t) := by
  unfold Machine.askPower; split
  exacts [h.giveGrant _, (h.setDrive _ _).setGrantQueue _]

theorem Within.releasePower {s t : State} (h : Within s t) (b : BayId) : Within s (releasePower b t) := by
  unfold Machine.releasePower; dsimp only; split
  exacts [h.setDrive _ _, ((h.setDrive _ _).setGrantQueue _).giveGrant _]

theorem Within.leaveQueue {s t : State} (h : Within s t) (b : BayId) : Within s (leaveQueue b t) :=
  (h.setDrive _ _).setGrantQueue _

theorem Within.testMovement {s t : State} (h : Within s t) (b : BayId) : Within s (testMovement b t) := by
  unfold Machine.testMovement; split
  exacts [h.askPower _, h]

theorem Within.enterIdle {s t : State} (h : Within s t) (b : BayId) : Within s (enterIdle b t) :=
  (h.setDrive _ _).testMovement _

theorem Within.enterOff {s t : State} (h : Within s t) (b : BayId) : Within s (enterOff b t) := h.setDrive _ _

theorem Within.clearHalted {s t : State} (h : Within s t) (b : BayId) : Within s (clearHalted b t) := h.setBay _ _

theorem Within.motionEnd {fin : Finisher} (hf : fin.Stays) {s t : State} (h : Within s t) (b : BayId) (f : Bool) :
    Within s (motionEnd fin b f t) := by
  unfold Machine.motionEnd; dsimp only
  have hz := Within.foldl (fun s u z h => Within.zoneMotionEnd h z) (zonesOf b) _ h
  split
  exacts [hz.closeWindow hf _, hz]

theorem Within.enterHolding {s t : State} (h : Within s t) (b : BayId) : Within s (enterHolding b t) := h.setDrive _ _

theorem Within.endInHolding {fin : Finisher} (hf : fin.Stays) {s t : State} (h : Within s t) (b : BayId) (f : Bool) :
    Within s (endInHolding fin b f t) := (h.enterHolding _).motionEnd hf _ _

theorem Within.failDrive {fin : Finisher} (hf : fin.Stays) {s t : State} (h : Within s t) (b : BayId) (f : Bool)
    (c : FaultClass) (d1 d2 : Nat) : Within s (failDrive fin b f c d1 d2 t) :=
  (((h.setDrive _ _).releasePower _).raiseFault hf _ _).motionEnd hf _ _

theorem Within.mismatch {fin : Finisher} (hf : fin.Stays) {s t : State} (h : Within s t) (b : BayId) (f : Bool)
    (v n : Nat) : Within s (mismatch fin b f v n t) := by
  unfold Machine.mismatch; dsimp only; repeat' split
  · exact ((h.setDrive _ _).raiseFault hf _ _).endInHolding hf _ _
  · exact (h.setDrive _ _).raiseFault hf _ _
  · exact h.failDrive hf _ _ _ _ _

theorem Within.judgeMark {fin : Finisher} (hf : fin.Stays) {s t : State} (h : Within s t) (b : BayId) (f : Bool) :
    Within s (judgeMark fin b f t) := by
  unfold Machine.judgeMark; dsimp only; repeat' split
  exacts [h.endInHolding hf _ _, h.setDrive _ _, h.mismatch hf _ _ _ _, h.failDrive hf _ _ _ _ _, h, h]

theorem Within.arrive {fin : Finisher} (hf : fin.Stays) {s t : State} (h : Within s t) (b : BayId) (f : Bool) :
    Within s (arrive fin b f t) := by
  unfold Machine.arrive; dsimp only; split
  exacts [(h.setDrive _ _).judgeMark hf _ _, h.endInHolding hf _ _]

theorem Within.enterMoving {fin : Finisher} (hf : fin.Stays) {s t : State} (h : Within s t) (b : BayId) (f : Bool) :
    Within s (enterMoving fin b f t) := by
  unfold Machine.enterMoving; dsimp only; split
  exacts [(h.setDrive _ _).arrive hf _ _, h.setDrive _ _]

theorem Within.enterHoming {fin : Finisher} (hf : fin.Stays) {s t : State} (h : Within s t) (b : BayId) (f : Bool) :
    Within s (enterHoming fin b f t) := by
  unfold Machine.enterHoming; dsimp only; split
  exacts [(h.setDrive _ _).enterMoving hf _ _, h.setDrive _ _]

theorem Within.startMovement {fin : Finisher} (hf : fin.Stays) {s t : State} (h : Within s t) (b : BayId) (f : Bool) :
    Within s (startMovement fin b f t) := by
  unfold Machine.startMovement; dsimp only; split
  exacts [(h.setDrive _ _).enterHoming hf _ _, (h.setDrive _ _).enterMoving hf _ _]

theorem Within.loseDesired {s t : State} (h : Within s t) (b : BayId) : Within s (loseDesired b t) := by
  have h1 := ((h.setDrive b { t.drive b with energiseTimer := none, holdTimer := none }).releasePower b).enterIdle b
  unfold Machine.loseDesired; dsimp only; repeat' split
  exacts [h, h.setDrive _ _, h, h.setDrive _ _, h, h.setDrive _ _, h1, h1, (h.leaveQueue _).enterIdle _, h]

theorem Within.changeDesired {fin : Finisher} (hf : fin.Stays) {s t : State} (h : Within s t) (b : BayId) (f : Bool) :
    Within s (changeDesired fin b f t) := by
  have h1 := (h.setDrive b { t.drive b with powerTimeout := false,
                                            pendingStop := (t.drive b).pendingStop.afterChange }).clearHalted b
  unfold Machine.changeDesired; dsimp only; repeat' split
  exacts [h1.testMovement _, (h1.leaveQueue _).enterIdle _, h1, h1.setDrive _ _, h1.startMovement hf _ _, h1, h1]

theorem Within.leaveFailed {s t : State} (h : Within s t) (b : BayId) : Within s (leaveFailed b t) :=
  ((h.setDrive _ _).clearHalted _).enterIdle _

theorem Within.driveHandoff {fin : Finisher} (hf : fin.Stays) {s t : State} (h : Within s t) (b : BayId)
    (x : Option Nat) (f : Bool) : Within s (driveHandoff fin b x f t) := by
  unfold Machine.driveHandoff; dsimp only; repeat' split
  all_goals first
    | exact h | exact (h.setDrive _ _).loseDesired _ | exact (h.setDrive _ _).leaveFailed _
    | exact ((h.setDrive _ _).changeDesired hf _ _).closeWindow hf _ | exact (h.setDrive _ _).changeDesired hf _ _
    | exact (h.setDrive _ _).closeWindow hf _ | exact h.setDrive _ _

/-! ### Sweeps between zones -/

theorem Within.freezeBay {s t : State} (h : Within s t) (b : BayId) : Within s (freezeBay b t) := h.setBay _ _

theorem Within.unfreezeBay {s t : State} (h : Within s t) (b : BayId) : Within s (unfreezeBay b t) := h.setBay _ _

theorem Within.reportZone {s t : State} (h : Within s t) (z : ZoneId) (r : ZoneResult) (eg df : Option Nat) :
    Within s (reportZone z r eg df t) := (h.setSweep _).offerNotice _

theorem Within.skipZone {s t : State} (h : Within s t) (z : ZoneId) (r : SkipReason) : Within s (skipZone z r t) :=
  (h.setSweep _).offerNotice _

theorem Within.endSweep {s t : State} (h : Within s t) (c : SweepCause) : Within s (endSweep c t) :=
  (h.setSweep _).offerNotice _

theorem Within.takeZone {fin : Finisher} (hf : fin.Stays) {s t : State} (h : Within s t) (z : ZoneId) :
    Within s (takeZone fin z t) := hf _ _ _ _ (((h.setTarget _ _).setSweep _).freezeBay _)

theorem Within.startZones {fin : Finisher} (hf : fin.Stays) {s : State} :
    (l : List ZoneId) → {t : State} → Within s t → Within s (startZones fin l t)
  | [], _, h => h.endSweep _
  | z :: l, t, h => by
    unfold Machine.startZones; split
    exacts [Within.startZones hf l (h.skipZone _ _), h.takeZone hf _]

theorem Within.proceed {fin : Finisher} (hf : fin.Stays) {s t : State} (h : Within s t) (z : ZoneId) :
    Within s (proceed fin z t) := by
  unfold Machine.proceed; split
  exacts [Within.startZones hf _ h, h.endSweep _, h]

theorem Within.checkPreempted {fin : Finisher} (hf : fin.Stays) {s t : State} (h : Within s t) :
    Within s (checkPreempted fin t) := by
  unfold Machine.checkPreempted; repeat' split
  exacts [h, h, ((h.unfreezeBay _).reportZone _ _ _ _).proceed hf _]

/-! ### The end of a claim -/

theorem Within.raiseMeasureLost {fin : Finisher} (hf : fin.Stays) {s t : State} (h : Within s t) (z : ZoneId) (x : Source) :
    Within s (raiseMeasureLost fin z x t) := (h.setZone _ _).raiseFault hf _ _

theorem Within.reportFallback {fin : Finisher} (hf : fin.Stays) {s t : State} (h : Within s t) (z : ZoneId) :
    Within s (reportFallback fin z t) := by
  unfold Machine.reportFallback; dsimp only; split
  exacts [h.closeWindow hf _, h]

theorem Within.handZone {fin : Finisher} (hf : fin.Stays) {s t : State} (h : Within s t) (z : ZoneId) :
    Within s (handZone fin z t) := by
  unfold Machine.handZone; dsimp only; split
  exacts [(h.putZone _ _ (Zone.takeContext_cfg _ _)).raiseMeasureLost hf _ _,
    (h.putZone _ _ (Zone.takeContext_cfg _ _)).reportFallback hf _]

theorem Within.handTarget {fin : Finisher} (hf : fin.Stays) {s t : State} (h : Within s t) (x : TargetId) :
    Within s (handTarget fin x t) := by
  unfold Machine.handTarget; split
  exacts [h.handZone hf _, h.driveHandoff hf _ _ _]

theorem Within.noteChange {s t : State} (h : Within s t) (x : TargetId) : Within s (noteChange x t) := by
  unfold Machine.noteChange; split
  exacts [h.offerNotice _, h]

theorem finishWith_stays {fin : Finisher} (hf : fin.Stays) : Finisher.Stays (finishWith fin) := by
  intro x c s u h
  unfold finishWith; dsimp only; split
  exacts [((h.noteChange _).handTarget hf _).checkPreempted hf, h.checkPreempted hf]

theorem finishClaim_stays : (n : Nat) → (finishClaim n).Stays
  | 0 => fun _ _ _ _ h => h
  | n + 1 => finishWith_stays (finishClaim_stays n)

/-- The end of a claim stays within. -/
theorem finish_stays : finish.Stays := finishClaim_stays _

/-! ### Glare, sources and the Sequencer within a zone -/

theorem Within.putGlare {fin : Finisher} (hf : fin.Stays) {s t : State} (h : Within s t) (b : BayId) (g : Glare)
    (x : Timer) : Within s (putGlare fin b g x t) := by
  unfold Machine.putGlare; dsimp only; split
  exacts [h.setBay _ _, hf _ _ _ _ ((h.setBay _ _).setTarget _ _)]

theorem Within.glarePublication {fin : Finisher} (hf : fin.Stays) {s t : State} (h : Within s t) (b : BayId) (v : Nat) :
    Within s (glarePublication fin b v t) := by
  unfold Machine.glarePublication; dsimp only; repeat' split
  all_goals first | exact h | exact h.putGlare hf _ _ _

theorem Within.reselect {fin : Finisher} (hf : fin.Stays) {s t : State} (h : Within s t) (z : ZoneId) :
    Within s (reselect fin z t) := by
  unfold Machine.reselect; dsimp only; repeat' split
  all_goals first
    | exact h | exact (h.setZone _ _).raiseMeasureLost hf _ _ | exact ((h.setZone _ _).setZone _ _).endReport hf _ _
    | exact h.setZone _ _

theorem Within.changeValue {fin : Finisher} (hf : fin.Stays) {s t : State} (h : Within s t) (z : ZoneId) (v : Nat) :
    Within s (changeValue fin z v t) := hf _ _ _ _ (h.setTarget _ _)

theorem Within.popClaim {fin : Finisher} (hf : fin.Stays) {s t : State} (h : Within s t) (z : ZoneId) :
    Within s (popClaim fin z t) := hf _ _ _ _ ((h.removeContexts _ _).offer _)

theorem Within.endZone {fin : Finisher} (hf : fin.Stays) {s t : State} (h : Within s t) (z : ZoneId) (r : ZoneResult)
    (eg df : Option Nat) : Within s (endZone fin z r eg df t) := by
  have h1 := (Within.popClaim hf (h.setSweep { t.sweep with current := none }) z).unfreezeBay (bayOf z)
  unfold Machine.endZone; dsimp only
  refine Within.proceed hf (Within.reportZone ?_ _ _ _ _) _
  split
  exacts [h1.raiseFault hf _ _, h1]

theorem Within.disturb {fin : Finisher} (hf : fin.Stays) {s t : State} (h : Within s t) (z : ZoneId) :
    Within s (disturb fin z t) := by
  unfold Machine.disturb; dsimp only; repeat' split
  exacts [h.endZone hf _ _ _ _, (h.setSweep _).changeValue hf _ _, h.setSweep _]

theorem Within.zoneResult {fin : Finisher} (hf : fin.Stays) {s t : State} (h : Within s t) (z : ZoneId) (m0 m1 : Nat)
    (s0 : Option Nat) : Within s (zoneResult fin z m0 m1 s0 t) := by
  unfold Machine.zoneResult; dsimp only; split
  exacts [((h.setZone _ _).reselect hf _).endZone hf _ _ _ _, h.endZone hf _ _ _ _]

theorem Within.seqCeiling {fin : Finisher} (hf : fin.Stays) {s t : State} (h : Within s t) (z : ZoneId) (v : Nat) :
    Within s (seqCeiling fin z v t) := by
  unfold Machine.seqCeiling; dsimp only; repeat' split
  all_goals first
    | exact h | exact (h.setSweep _).changeValue hf _ _ | exact (h.setSweep _).disturb hf _
    | exact (h.setSweep _).zoneResult hf _ _ _ _

theorem Within.seqSky {s t : State} (h : Within s t) (b : BayId) (v : Nat) : Within s (seqSky b v t) := by
  unfold Machine.seqSky; split
  exacts [h.setSweep _, h]

theorem Within.seqSkyLost {s t : State} (h : Within s t) (b : BayId) : Within s (seqSkyLost b t) := by
  unfold Machine.seqSkyLost; split
  exacts [h.setSweep _, h]

theorem Within.seqCeilingState {fin : Finisher} (hf : fin.Stays) {s t : State} (h : Within s t) (z : ZoneId) (v : Bool) :
    Within s (seqCeilingState fin z v t) := by
  unfold Machine.seqCeilingState; dsimp only; repeat' split
  exacts [h.setSweep _, (h.setSweep _).disturb hf _, h]

theorem Within.seqMotionStart {fin : Finisher} (hf : fin.Stays) {s t : State} (h : Within s t) (b : BayId) :
    Within s (seqMotionStart fin b t) := by
  unfold Machine.seqMotionStart; split
  exacts [h.disturb hf _, h]

theorem Within.beginRead {fin : Finisher} (hf : fin.Stays) {s t : State} (h : Within s t) (z : ZoneId) (p : SweepPhase) :
    Within s (beginRead fin z p t) := by
  unfold Machine.beginRead; dsimp only; split
  exacts [h.setSweep _, (h.setSweep _).disturb hf _]

/-! ### The step event of a drive -/

theorem Within.reportMotionStart {fin : Finisher} (hf : fin.Stays) {s t : State} (h : Within s t) (b : BayId) :
    Within s (reportMotionStart fin b t) := by
  unfold Machine.reportMotionStart; dsimp only; split
  · exact h
  · exact Within.seqMotionStart hf (Within.foldl (fun s u z h => Within.zoneMotionStart h z) _ _ (h.setDrive _ _)) _

theorem Within.afterHomeCheck {fin : Finisher} (hf : fin.Stays) {s t : State} (h : Within s t) (b : BayId) (f : Bool)
    {k : State → State} (hk : Within s (k t)) : Within s (afterHomeCheck fin b f k t) := by
  unfold Machine.afterHomeCheck; split
  exacts [h.failDrive hf _ _ _ _ _, hk]

theorem Within.stepHoming {fin : Finisher} (hf : fin.Stays) {s t : State} (h : Within s t) (b : BayId) (f : Bool) :
    Within s (stepHoming fin b f t) := by
  unfold Machine.stepHoming; dsimp only
  generalize hd : (t.setDrive b _) = u
  have h1 : Within s (Machine.reportMotionStart fin b u) := Within.reportMotionStart hf (hd ▸ h.setDrive _ _) _
  repeat' split
  all_goals first | exact h1 | exact (h1.setDrive _ _).enterMoving hf _ _ | exact h1.failDrive hf _ _ _ _ _

theorem Within.stepMoving {fin : Finisher} (hf : fin.Stays) {s t : State} (h : Within s t) (b : BayId) (f : Bool) :
    Within s (stepMoving fin b f t) := by
  unfold Machine.stepMoving; dsimp only; repeat' split
  · exact h.enterHoming hf _ _
  · exact h
  · exact h.arrive hf _ _
  · have h1 := Within.reportMotionStart hf
      (h.setDrive b ((t.drive b).step (toward ‹Nat› ‹Nat›))) b
    refine Within.afterHomeCheck hf (Within.reportMotionStart hf (h.setDrive _ _) _) _ _ ?_
    split
    · exact (Within.reportMotionStart hf (h.setDrive _ _) _).arrive hf _ _
    · exact Within.reportMotionStart hf (h.setDrive _ _) _

theorem Within.stepVerifying {fin : Finisher} (hf : fin.Stays) {s t : State} (h : Within s t) (b : BayId) (f : Bool) :
    Within s (stepVerifying fin b f t) := by
  unfold Machine.stepVerifying; dsimp only; repeat' split
  · exact (h.setDrive _ _).stepMoving hf _ _
  · refine Within.afterHomeCheck hf (h.setDrive _ _) _ _ ?_
    split
    exacts [(h.setDrive _ _).endInHolding hf _ _, h.setDrive _ _]
  · exact Within.afterHomeCheck hf (h.setDrive _ _) _ _ ((h.setDrive _ _).judgeMark hf _ _)
  · exact h.enterHoming hf _ _
  · exact h

theorem Within.carryOutStop {fin : Finisher} (hf : fin.Stays) {s t : State} (h : Within s t) (b : BayId) (f : Bool) :
    Within s (carryOutStop fin b f t) := by
  unfold Machine.carryOutStop; dsimp only; split
  exacts [h, (h.setDrive _ _).endInHolding hf _ _, (((h.setDrive _ _).releasePower _).enterIdle _).motionEnd hf _ _,
    (((h.setDrive _ _).releasePower _).enterOff _).motionEnd hf _ _, (h.setDrive _ _).enterHoming hf _ _]

theorem Within.stepAction {fin : Finisher} (hf : fin.Stays) {s t : State} (h : Within s t) (b : BayId) :
    Within s (stepAction fin b t) := by
  unfold Machine.stepAction; dsimp only; repeat' split
  exacts [h.carryOutStop hf _ _, (h.setDrive _ _).stepHoming hf _ _, (h.setDrive _ _).stepMoving hf _ _,
    (h.setDrive _ _).stepVerifying hf _ _, h.setDrive _ _]

theorem Within.stepEvent {fin : Finisher} (hf : fin.Stays) {s t : State} (h : Within s t) (b : BayId) :
    Within s (stepEvent fin b t) := by
  unfold Machine.stepEvent; dsimp only; repeat' split
  exacts [h, ((h.setDrive _ _).stepAction hf _).setDrive _ _, (h.setDrive _ _).stepAction hf _]

end Sys2Proof.Machine
end

