-- ==== Sys2Proof/Laws/Link.lean ====
section
/-! SUPPORT. What a reply and a notice do, what the end of an event does when it finds nothing to do, and what `operate` and
`hostCommand` answer: with these a statement about a row is a statement about its effect. -/

namespace Sys2Proof.Machine

open Sys2Proof

/-! ### Replies and notices -/

theorem reply_eq_replied (tag : Byte) (status : Status) (s : State) : reply tag status s = replied tag status [] s := rfl

theorem enterReply_eq_replied (tag : Byte) (status : Status) (result : List Byte) (s : State) :
    enterReply tag status result s = replied tag status result s := rfl

theorem offerNotice_eq_noticed (r : Record) (s : State) : offerNotice r s = noticed r s := rfl

theorem noticed_room {r : Record} {s : State} (h : s.link.reports.length < 64) :
    noticed r s = { s with link := { s.link with reports := s.link.reports ++ [r] } } := by
  simp [noticed, h]

theorem noticed_full {r : Record} {s : State} (h : 64 ≤ s.link.reports.length) :
    noticed r s = { s with link := { s.link with flags := { s.link.flags with reportLost := true } } } := by
  simp [noticed, Nat.not_lt.mpr h]

/-- A reply taken through the Decoder's gate keeps the Report Queue within its bound. -/
theorem replied_bounded {tag : Byte} {status : Status} {result : List Byte} {s : State} (h : GateOpen s) :
    (replied tag status result s).link.reports.length ≤ Config.reportCap := by
  simp only [replied, List.length_append, List.length_singleton]
  exact h

/-! ### The end of an event -/

theorem startUpdate_of_rest {l : LineId} {s : State} (h : LineAtRest (s.line l)) : startUpdate l s = s := by
  unfold startUpdate
  dsimp only
  rcases h with h | h
  · simp [h]
  · rw [h.1]; simp

theorem startAudit_of_rest {l : LineId} {s : State} (h : LineAtRest (s.line l)) : startAudit l s = s := by
  unfold startAudit
  dsimp only
  rcases h with h | h
  · simp [h]
  · simp [h.2]

theorem testLine_of_rest {l : LineId} {s : State} (h : LineAtRest (s.line l)) : testLine l s = s := by
  rw [testLine, startUpdate_of_rest h, startAudit_of_rest h]

theorem testLines_of_rest {s : State} (h : LinesAtRest s) : testLines s = s := by
  rw [testLines, testLine_of_rest (l := .l0) (s := s) h.1, testLine_of_rest (l := .l1) (s := s) h.2]

theorem startFrame_of_blocked {s : State} (h : TransmitterBlocked s) : startFrame s = none := by
  unfold startFrame
  rcases h with h | h
  · simp [h]
  · have : s.link.sending.isNone = false := by cases hs : s.link.sending <;> simp_all
    simp [this]

theorem chooseFrame_of_nothing {s : State} (h : NothingInbound s) : chooseFrame s = none := by
  unfold chooseFrame; rw [h.1, h.2]

/-- The transmitter and the Decoder find nothing to do. -/
theorem pump_of_rest {s : State} (hb : TransmitterBlocked s) (hn : NothingInbound s ∨ ¬ GateOpen s) :
    (n : Nat) → pump n s = s
  | 0 => rfl
  | n + 1 => by
    unfold pump
    rw [startFrame_of_blocked hb]
    by_cases hg : GateOpen s
    · have hn' := hn.resolve_right (not_not_intro hg)
      simp [chooseFrame_of_nothing hn']
    · have : gateOpen s = false := by simpa [gateOpen, GateOpen] using hg
      simp [this]

/-- The end of an event finds nothing to do. -/
theorem settle_of_quiet {s : State} (h : Quiet s) : settle s = s := by
  rw [settle, testLines_of_rest h.2.1, pump_of_rest h.1 h.2.2]

@[simp] theorem startUpdate_link (l : LineId) (s : State) : (startUpdate l s).link = s.link := by
  unfold startUpdate; dsimp only; repeat' split
  all_goals simp

@[simp] theorem startAudit_link (l : LineId) (s : State) : (startAudit l s).link = s.link := by
  unfold startAudit; dsimp only; repeat' split
  all_goals simp

@[simp] theorem testLines_link (s : State) : (testLines s).link = s.link := by simp [testLines, testLine]

@[simp] theorem startUpdate_hrdy (l : LineId) (s : State) : (startUpdate l s).hrdy = s.hrdy := by
  unfold startUpdate; dsimp only; repeat' split
  all_goals simp

@[simp] theorem startAudit_hrdy (l : LineId) (s : State) : (startAudit l s).hrdy = s.hrdy := by
  unfold startAudit; dsimp only; repeat' split
  all_goals simp

@[simp] theorem testLines_hrdy (s : State) : (testLines s).hrdy = s.hrdy := by simp [testLines, testLine]

/-- The engines alone act at the end of an event that leaves nothing to transmit or to take. -/
theorem settle_of_blocked {s : State} (hb : TransmitterBlocked s) (hn : NothingInbound s ∨ ¬ GateOpen s) :
    settle s = testLines s := by
  rw [settle]
  apply pump_of_rest
  · simpa [TransmitterBlocked] using hb
  · simpa [NothingInbound, GateOpen] using hn

/-! ### Rows -/

theorem operate_of_operating {body : State → State} {s : State} (h : Operating s) :
    operate body s = .next (settle (body s)) := by
  rw [operate, h]; rfl

theorem operate_of_held {body : State → State} {s : State} (h : s.rstAsserted = true) : operate body s = .next s := by
  rw [operate, h]; rfl

theorem decoderReady_of_taking {s : State} (h : Taking s) : decoderReady s = true := by
  obtain ⟨_, hg, hm, hi⟩ := h
  simp only [decoderReady, gateOpen, hm, hi]
  simpa [GateOpen] using hg

/-- A host command that the Decoder is ready for has its effect at once. -/
theorem hostCommand_of_taking {f : Frame} {take : State → State} {s : State} (h : Taking s) :
    hostCommand f take s = .next (settle (take s)) := by
  rw [hostCommand, operate_of_operating h.1, decoderReady_of_taking h]; rfl

/-- A host command that the Decoder is not ready for waits in its store or is lost. -/
theorem hostCommand_of_waiting {f : Frame} {take : State → State} {s : State} (ho : Operating s)
    (h : decoderReady s = false) : hostCommand f take s = .next (settle (routeFrame f s)) := by
  rw [hostCommand, operate_of_operating ho, h]; rfl

/-- Every row of the part answers with a next state: `operate` and `hostCommand` have no other answer. -/
theorem operate_next (body : State → State) (s : State) : ∃ t, operate body s = .next t := by
  unfold operate; split <;> exact ⟨_, rfl⟩

end Sys2Proof.Machine
end

