-- ==== Sys2Proof/Laws/Rows.lean ====
section
/-! SUPPORT. The host command rows as one: each is the Decoder's taking of its command when the Decoder is ready, and the
routing of its frame otherwise. -/

namespace Sys2Proof.Machine

open Sys2Proof

theorem exec_row (h : FrameHead) (c : Command) (s : State) :
    exec (c.row h) s = hostCommand (encodeCommand h c) (runCommand h.tag c) s := by
  cases c <;> rfl

/-- A host command that the Decoder takes completes with the effect of its owning rule. -/
theorem completes_row {h : FrameHead} {c : Command} {s : State} (ht : Taking s) :
    Completes (c.row h) s (runCommand h.tag c s) := by
  rw [Completes, exec_row, hostCommand_of_taking ht]

/-- A host command that the Decoder cannot take yet completes with the routing of its frame. -/
theorem completes_row_waiting {h : FrameHead} {c : Command} {s : State} (ho : Operating s)
    (hd : decoderReady s = false) : Completes (c.row h) s (routeFrame (encodeCommand h c) s) := by
  rw [Completes, exec_row, hostCommand_of_waiting ho hd]

/-- A frame that the Decoder takes and that decodes is carried out as its command. -/
theorem takeFrame_of_decoded {f : Frame} {c : Command} {s : State} (h : decodeFrame f = .ok c) :
    takeFrame f s = runCommand f.tag c s := by
  unfold takeFrame; rw [h]

/-- `routeFrame` is the routing that statements name. -/
theorem routeFrame_eq_stored (f : Frame) (s : State) : routeFrame f s = stored f s := by
  unfold routeFrame stored
  rcases f.urgent with _ | _ <;> cases hm : s.link.mailbox <;>
    simp [hm, Config.inboundCap, State.setLink]

theorem hunt_eq_hunting (s : State) : hunt s = hunting s := rfl

theorem discardFrame_eq_discarded (s : State) : discardFrame s = discarded s := rfl

theorem receiveOn_eq_receiving (r : Receiver) (s : State) : receiveOn r s = receiving r s := rfl

/-! ### The rows that are not host commands -/

theorem exec_unknownKind (h) (code) (payload) (s : State) : exec (.unknownKind h code payload) s = execUnknownKind h code payload s := rfl

theorem exec_rstNAsserted (s : State) : exec .rstNAsserted s = execRstNAsserted s := rfl

theorem exec_rstNDeasserted (s : State) : exec .rstNDeasserted s = execRstNDeasserted s := rfl

theorem exec_frameReceived (body) (check) (s : State) : exec (.frameReceived body check) s = execFrameReceived body check s := rfl

theorem exec_gapTimerExpiry (s : State) : exec .gapTimerExpiry s = execGapTimerExpiry s := rfl

theorem exec_hrdyAsserted (s : State) : exec .hrdyAsserted s = execHrdyAsserted s := rfl

theorem exec_hrdyDeasserted (s : State) : exec .hrdyDeasserted s = execHrdyDeasserted s := rfl

theorem exec_transmitStart (s : State) : exec .transmitStart s = execTransmitStart s := rfl

theorem exec_frameSent (s : State) : exec .frameSent s = execFrameSent s := rfl

theorem exec_scanTimerExpiry (s : State) : exec .scanTimerExpiry s = execScanTimerExpiry s := rfl

theorem exec_owedScanStart (s : State) : exec .owedScanStart s = execOwedScanStart s := rfl

theorem exec_sensorAnswer (channel) (raw) (arrival) (s : State) : exec (.sensorAnswer channel raw arrival) s = execSensorAnswer channel raw arrival s := rfl

theorem exec_sensorAnswerTimeout (s : State) : exec .sensorAnswerTimeout s = execSensorAnswerTimeout s := rfl

theorem exec_rampTick (z) (s : State) : exec (.rampTick z) s = execRampTick z s := rfl

theorem exec_settleTimerExpiry (z) (s : State) : exec (.settleTimerExpiry z) s = execSettleTimerExpiry z s := rfl

theorem exec_readingTimerExpiry (z) (s : State) : exec (.readingTimerExpiry z) s = execReadingTimerExpiry z s := rfl

theorem exec_glareHoldExpiry (b) (s : State) : exec (.glareHoldExpiry b) s = execGlareHoldExpiry b s := rfl

theorem exec_holdExpiry (identity) (s : State) : exec (.holdExpiry identity) s = execHoldExpiry identity s := rfl

theorem exec_waitExpiry (identity) (s : State) : exec (.waitExpiry identity) s = execWaitExpiry identity s := rfl

theorem exec_stepEvent (b) (home) (mark) (s : State) : exec (.stepEvent b home mark) s = execStepEvent b home mark s := rfl

theorem exec_energiseTimerExpiry (b) (home) (mark) (s : State) : exec (.energiseTimerExpiry b home mark) s = execEnergiseTimerExpiry b home mark s := rfl

theorem exec_driveHoldTimerExpiry (b) (s : State) : exec (.driveHoldTimerExpiry b) s = execDriveHoldTimerExpiry b s := rfl

theorem exec_powerWaitTimeout (b) (s : State) : exec (.powerWaitTimeout b) s = execPowerWaitTimeout b s := rfl

theorem exec_luminaireAnswer (l) (level) (arrival) (s : State) : exec (.luminaireAnswer l level arrival) s = execLuminaireAnswer l level arrival s := rfl

theorem exec_luminaireAnswerTimeout (l) (s : State) : exec (.luminaireAnswerTimeout l) s = execLuminaireAnswerTimeout l s := rfl

theorem exec_auditTimerExpiry (l) (s : State) : exec (.auditTimerExpiry l) s = execAuditTimerExpiry l s := rfl

theorem exec_updateTransactionStart (l) (s : State) : exec (.updateTransactionStart l) s = execUpdateTransactionStart l s := rfl

theorem exec_audit (l) (s : State) : exec (.audit l) s = execAudit l s := rfl

theorem exec_phaseTimerExpiry (s : State) : exec .phaseTimerExpiry s = execPhaseTimerExpiry s := rfl

theorem exec_secondsCounterTick (s : State) : exec .secondsCounterTick s = execSecondsCounterTick s := rfl

theorem exec_byteTaken (b) (good) (s : State) : exec (.byteTaken b good) s = execByteTaken b good s := rfl

end Sys2Proof.Machine
end

