-- ==== Sys2Proof/Laws/Claims.lean ====
section
/-! SUPPORT. Writing a record twice and writing a record back, the numbering of targets, and what the end of a claim does when
nothing has changed or nothing waits. -/

namespace Sys2Proof.Machine

open Sys2Proof

/-! ### Writes on one another -/

theorem set_get_self {α : Type} {n : Nat} (v : Vector α n) (i : Fin n) : v.set i.val (v.get i) i.isLt = v := by
  simp [Vector.get_eq_getElem]

@[simp] theorem State.setZone_setZone (s : State) (z : ZoneId) (r r' : Zone) :
    (s.setZone z r).setZone z r' = s.setZone z r' := by simp [State.setZone]
@[simp] theorem State.setBay_setBay (s : State) (b : BayId) (r r' : Bay) :
    (s.setBay b r).setBay b r' = s.setBay b r' := by simp [State.setBay]
@[simp] theorem State.setTarget_setTarget (s : State) (t : TargetId) (r r' : Target) :
    (s.setTarget t r).setTarget t r' = s.setTarget t r' := by simp [State.setTarget]
@[simp] theorem State.setDrive_setDrive (s : State) (b : BayId) (r r' : Drive) :
    (s.setDrive b r).setDrive b r' = s.setDrive b r' := by simp [State.setDrive]
@[simp] theorem State.setChannel_setChannel (s : State) (c : ChannelId) (r r' : Channel) :
    (s.setChannel c r).setChannel c r' = s.setChannel c r' := by simp [State.setChannel]
@[simp] theorem State.setSweep_setSweep (s : State) (r r' : Sweep) : (s.setSweep r).setSweep r' = s.setSweep r' := rfl
@[simp] theorem State.setLink_setLink (s : State) (r r' : LinkPort) : (s.setLink r).setLink r' = s.setLink r' := rfl
@[simp] theorem State.setScanner_setScanner (s : State) (r r' : Scanner) :
    (s.setScanner r).setScanner r' = s.setScanner r' := rfl
@[simp] theorem State.setGrantQueue_setGrantQueue (s : State) (r r' : List BayId) :
    (s.setGrantQueue r).setGrantQueue r' = s.setGrantQueue r' := rfl
@[simp] theorem State.setPendingList_setPendingList (s : State) (r r' : List Entry) :
    (s.setPendingList r).setPendingList r' = s.setPendingList r' := rfl
@[simp] theorem State.setLine_setLine (s : State) (l : LineId) (r r' : Line) :
    (s.setLine l r).setLine l r' = s.setLine l r' := by cases l <;> rfl

@[simp] theorem State.setZone_self (s : State) (z : ZoneId) : s.setZone z (s.zone z) = s := by
  simp [State.setZone, State.zone, set_get_self]
@[simp] theorem State.setBay_self (s : State) (b : BayId) : s.setBay b (s.bay b) = s := by
  simp [State.setBay, State.bay, set_get_self]
@[simp] theorem State.setTarget_self (s : State) (t : TargetId) : s.setTarget t (s.target t) = s := by
  simp [State.setTarget, State.target, set_get_self]
@[simp] theorem State.setDrive_self (s : State) (b : BayId) : s.setDrive b (s.drive b) = s := by
  simp [State.setDrive, State.drive, set_get_self]

theorem State.setTarget_setZone (s : State) (t : TargetId) (r : Target) (z : ZoneId) (v : Zone) :
    (s.setZone z v).setTarget t r = (s.setTarget t r).setZone z v := rfl

/-! ### Numbering -/

@[simp] theorem viewTarget_zoneTarget (z : ZoneId) : viewTarget (zoneTarget z) = .zone z := by
  unfold viewTarget zoneTarget; simp
@[simp] theorem viewTarget_shadeTarget (b : BayId) : viewTarget (shadeTarget b) = .shade b := by
  unfold viewTarget shadeTarget; simp
theorem zoneTarget_ne_shadeTarget (z : ZoneId) (b : BayId) : zoneTarget z ≠ shadeTarget b := by
  intro h; have := congrArg Fin.val h; simp only [zoneTarget, shadeTarget] at this; omega
theorem zoneTarget_inj {z y : ZoneId} (h : zoneTarget z = zoneTarget y) : z = y := by
  apply Fin.ext; simpa [zoneTarget] using congrArg Fin.val h
theorem shadeTarget_inj {b c : BayId} (h : shadeTarget b = shadeTarget c) : b = c := by
  apply Fin.ext; simpa [shadeTarget] using congrArg Fin.val h

/-- A target is a zone's or a shade's. -/
theorem target_cases (t : TargetId) : (∃ z, t = zoneTarget z) ∨ ∃ b, t = shadeTarget b := by
  by_cases h : t.val < 48
  · exact .inl ⟨⟨t.val, h⟩, rfl⟩
  · refine .inr ⟨⟨t.val - 48, by omega⟩, ?_⟩
    apply Fin.ext; simp only [shadeTarget]; omega

theorem operandTarget_of_val {b : Byte} {t : TargetId} (h : t.val = b.toNat) : operandTarget b = some t := by
  simp [operandTarget, operandId, ← h]
theorem operandTarget_none {b : Byte} (h : 63 < b.toNat) : operandTarget b = none := by
  have : ¬ b.toNat < 64 := by omega
  simp [operandTarget, operandId, this]

/-! ### Claims -/

@[simp] theorem sameContext_refl (c : Context) : sameContext c c = true := by simp [sameContext]

theorem checkPreempted_of_none {fin : Finisher} {s : State} (h : NoZoneCalibrating s) : checkPreempted fin s = s := by
  unfold checkPreempted; rw [h]

/-- A claim that leaves the active context as it was ends with nothing handed on. -/
theorem finish_of_same {t : TargetId} {c : Context} {s : State} (h : NoZoneCalibrating s) (hc : s.active t = c) :
    finish t c s = s := by
  show checkPreempted _ (if _ then _ else s) = s
  subst hc
  simp [checkPreempted_of_none h]

/-- A claim on a target that is out of service ends with nothing handed on. -/
theorem finish_of_inactive {t : TargetId} {c : Context} {s : State} (h : NoZoneCalibrating s)
    (ha : (s.target t).isActive = false) : finish t c s = s := by
  show checkPreempted _ (if _ then _ else s) = s
  simp [ha, checkPreempted_of_none h]

theorem offerUpTo_of_noEntries {t : TargetId} {s : State} (h : NoEntries s t) : (n : Nat) → offerUpTo n t s = s
  | 0 => rfl
  | n + 1 => by
    unfold offerUpTo
    have : (s.pendingList.find? fun e => e.target == t) = none := by
      simp only [List.find?_eq_none, beq_iff_eq]; exact h
    simp [this]

/-- An offer finds nothing for a target without entries. -/
theorem offer_of_noEntries {t : TargetId} {s : State} (h : NoEntries s t) : offer t s = s := by
  unfold offer; split
  · exact offerUpTo_of_noEntries h _
  · rfl

/-! ### Grants -/

/-- A drive written with the grant it had leaves the number of grants. -/
theorem grantsHeld_setDrive {s : State} {b : BayId} {r : Drive} (h : r.grant = (s.drive b).grant) :
    grantsHeld (s.setDrive b r) = grantsHeld s := by
  unfold grantsHeld
  congr 1; funext x
  rw [State.drive_setDrive]; split
  · rename_i hx; rw [hx, h]
  · rfl

@[simp] theorem grantsHeld_setBay (s : State) (b : BayId) (r : Bay) : grantsHeld (s.setBay b r) = grantsHeld s := rfl
@[simp] theorem grantsHeld_setTarget (s : State) (t : TargetId) (r : Target) : grantsHeld (s.setTarget t r) = grantsHeld s := rfl
@[simp] theorem grantsHeld_setLink (s : State) (r : LinkPort) : grantsHeld (s.setLink r) = grantsHeld s := rfl
@[simp] theorem grantsHeld_setSweep (s : State) (r : Sweep) : grantsHeld (s.setSweep r) = grantsHeld s := rfl
@[simp] theorem grantsHeld_setGrantQueue (s : State) (r : List BayId) : grantsHeld (s.setGrantQueue r) = grantsHeld s := rfl

end Sys2Proof.Machine
end

