-- ==== Sys2Proof/Laws/Handing.lean ====
section
/-! SUPPORT. The notices of one event as one change of the Link Port; what the end of a claim does where the changed active
context is handed on without a raise, to a zone and to a drive; the pushes of a HOST context; and DISABLE's dismissal. -/

namespace Sys2Proof.Machine

open Sys2Proof

/-! ### Notices -/

/-- The Link Port after one notice other than a READING. -/
def noticeLink (r : Record) (k : LinkPort) : LinkPort :=
  if k.reports.length < 64 then { k with reports := k.reports ++ [r] }
  else { k with flags := { k.flags with reportLost := true } }

/-- The Link Port after notices, one after another. -/
def noticesLink (rs : List Record) (k : LinkPort) : LinkPort := rs.foldl (fun k r => noticeLink r k) k

theorem noticed_eq (r : Record) (s : State) : noticed r s = s.setLink (noticeLink r s.link) := by
  unfold noticed noticeLink; split <;> rfl

theorem notedAll_eq (rs : List Record) (s : State) : notedAll rs s = s.setLink (noticesLink rs s.link) := by
  induction rs generalizing s with
  | nil => rfl
  | cons r rs ih => show notedAll rs (noticed r s) = _; rw [ih, noticed_eq]; rfl

@[simp] theorem noticesLink_nil (k : LinkPort) : noticesLink [] k = k := rfl
@[simp] theorem noticesLink_cons (r : Record) (rs : List Record) (k : LinkPort) :
    noticesLink (r :: rs) k = noticesLink rs (noticeLink r k) := rfl
@[simp] theorem noticesLink_append (rs qs : List Record) (k : LinkPort) :
    noticesLink (rs ++ qs) k = noticesLink qs (noticesLink rs k) := List.foldl_append

theorem offerNotice_eq (r : Record) (s : State) : offerNotice r s = s.setLink (noticeLink r s.link) :=
  (offerNotice_eq_noticed r s).trans (noticed_eq r s)

/-- Notices only grow the Report Queue. -/
theorem noticeLink_grown (r : Record) (k : LinkPort) : k.reports <+: (noticeLink r k).reports := by
  unfold noticeLink; split <;> simp

theorem noticesLink_grown (rs : List Record) (k : LinkPort) : k.reports <+: (noticesLink rs k).reports := by
  induction rs generalizing k with
  | nil => exact List.prefix_refl _
  | cons r rs ih => exact (noticeLink_grown r k).trans (ih _)

theorem contextNotice_eq (t : TargetId) (f : RequestFate) (c : Context) (s : State) : contextNotice t f c s =
    s.setLink (noticesLink (c.identity.toList.map fun i => .requestState i t c.level f) s.link) := by
  unfold contextNotice
  rcases c.identity with _ | i
  · rfl
  · exact offerNotice_eq _ _

/-- Changes of the Link Port alone, one for each item of a list, are one change of it. -/
theorem foldl_setLink {α : Type} {f : State → α → State} {g : α → LinkPort → LinkPort}
    (h : ∀ s a, f s a = s.setLink (g a s.link)) :
    (l : List α) → (s : State) → l.foldl f s = s.setLink (l.foldl (fun k a => g a k) s.link)
  | [], _ => rfl
  | a :: l, s => by rw [List.foldl_cons, foldl_setLink h l, h]; rfl

theorem noteChange_eq (t : TargetId) (s : State) :
    noteChange t s = s.setLink (noticesLink (changeNotice t (s.target t)) s.link) := by
  unfold noteChange changeNotice
  split
  · exact offerNotice_eq _ _
  · rfl

@[simp] theorem changeNotice_fault (t : TargetId) (r : Target) (f : Option FaultRecord) :
    changeNotice t { r with fault := f } = changeNotice t r := rfl

/-! ### The end of a claim -/

/-- The end of a claim whose target is in service with another active context. -/
theorem finish_of_changed {t : TargetId} {c : Context} {s : State} (ha : (s.target t).state = .active)
    (hc : sameContext c (s.active t) = false) :
    finish t c s = checkPreempted (finishClaim 5) (handTarget (finishClaim 5) t (noteChange t s)) := by
  show checkPreempted _ (if _ then _ else s) = _
  simp [Target.isActive, ha, hc]

theorem sameContext_of_identity {a b : Context} (h : a.identity ≠ b.identity) : sameContext a b = false := by
  simp [sameContext, h]

theorem sameContext_of_value {a b : Context} (h : a.value ≠ b.value) : sameContext a b = false := by
  simp [sameContext, h]

theorem sameContext_of_origin {a b : Context} (h : a.origin ≠ b.origin) : sameContext a b = false := by
  simp [sameContext, h]

/-- The zone being calibrated keeps its CALIBRATE context: nothing is preempted. -/
theorem checkPreempted_of_kept {fin : Finisher} {s : State}
    (h : ∀ y, s.sweep.current = some y → ∃ c ∈ (s.target (zoneTarget y)).above, c.origin = .calibrate) :
    checkPreempted fin s = s := by
  unfold checkPreempted
  split
  · rfl
  · rename_i z hz
    have : hasCalibrate s z = true := by simpa [hasCalibrate] using h z hz
    simp [this]

/-! ### A zone -/

@[simp] theorem Zone.settleRamp_source (r : Zone) : r.settleRamp.source = r.source := by unfold Zone.settleRamp; split_ifs <;> rfl
@[simp] theorem Zone.settleRamp_measureLost (r : Zone) : r.settleRamp.measureLost = r.measureLost := by
  unfold Zone.settleRamp; split_ifs <;> rfl
@[simp] theorem Zone.settleRamp_copy (r : Zone) : r.settleRamp.copy = r.copy := by unfold Zone.settleRamp; split_ifs <;> rfl
@[simp] theorem Zone.settleRamp_output (r : Zone) : r.settleRamp.output = r.output := by unfold Zone.settleRamp; split_ifs <;> rfl
@[simp] theorem Zone.settleRamp_rampTarget (r : Zone) : r.settleRamp.rampTarget = r.rampTarget := by
  unfold Zone.settleRamp; split_ifs <;> rfl
@[simp] theorem Zone.settleRamp_rates (r : Zone) : r.settleRamp.rates = r.rates := by unfold Zone.settleRamp; split_ifs <;> rfl
@[simp] theorem Zone.settleRamp_cal (r : Zone) : r.settleRamp.cal = r.cal := by unfold Zone.settleRamp; split_ifs <;> rfl

@[simp] theorem Zone.takeContext_source (r : Zone) (c : Context) : (r.takeContext c).source = r.source := by
  unfold Zone.takeContext; split <;> (try split) <;> (try split) <;> simp [Zone.setImmediate]
@[simp] theorem Zone.takeContext_measureLost (r : Zone) (c : Context) : (r.takeContext c).measureLost = r.measureLost := by
  unfold Zone.takeContext; split <;> (try split) <;> (try split) <;> simp [Zone.setImmediate]
@[simp] theorem Zone.takeContext_cal (r : Zone) (c : Context) : (r.takeContext c).cal = r.cal := by
  unfold Zone.takeContext; split <;> (try split) <;> (try split) <;> simp [Zone.setImmediate]
@[simp] theorem Zone.takeContext_copy (r : Zone) (c : Context) : (r.takeContext c).copy = c.copy := by
  unfold Zone.takeContext; split <;> (try split) <;> (try split) <;> simp [Zone.setImmediate]

/-- Writing a zone record changes that record and, with a changed output, the lines. -/
theorem putZone_eq (z : ZoneId) (r : Zone) (s : State) : ∃ l0 l1, putZone z r s =
    { s.setZone z r with lineL0 := l0, lineL1 := l1 } := by
  unfold putZone; split
  · exact ⟨s.lineL0, s.lineL1, rfl⟩
  · exact ⟨_, _, rfl⟩

/-- A context-change event at a zone that raises nothing and closes no window. -/
theorem handZone_quiet {fin : Finisher} {z : ZoneId} {s : State} {c : Context} (hc : s.active (zoneTarget z) = c)
    (hm : c.kind = .fix ∨ (s.zone z).source ≠ .none ∨ (s.zone z).measureLost = true)
    (hf : c.origin ≠ .fault ∨ c.value ≠ some ((s.zone z).takeContext c).output) :
    handZone fin z s = putZone z ((s.zone z).takeContext c) s := by
  subst hc
  have hz : (putZone z ((s.zone z).takeContext (s.active (zoneTarget z))) s).zone z =
      (s.zone z).takeContext (s.active (zoneTarget z)) := by
    obtain ⟨l0, l1, e⟩ := putZone_eq z ((s.zone z).takeContext (s.active (zoneTarget z))) s
    rw [e]; exact State.zone_setZone_same _ _ _
  unfold handZone
  have h1 : (((s.zone z).takeContext (s.active (zoneTarget z))).copy.measuring &&
      ((s.zone z).takeContext (s.active (zoneTarget z))).source == .none &&
      !((s.zone z).takeContext (s.active (zoneTarget z))).measureLost) = false := by
    simp only [Zone.takeContext_copy, Zone.takeContext_source, Zone.takeContext_measureLost, ContextCopy.measuring,
      Context.copy]
    rcases hm with h | h | h <;> simp [h]
  simp only [hz, h1, Bool.false_eq_true, if_false]
  unfold reportFallback
  rw [hz]
  refine if_neg ?_
  rintro ⟨a, b⟩
  rw [Zone.takeContext_copy] at a b
  rcases hf with h | h
  · exact h a
  · exact h b

/-! ### A drive -/

/-- A drive has been handed a desired stop with no effect but on drives, bays and the grant queue; `b` keeps its stop. -/
structure DriveOnly (b : BayId) (s u : State) : Prop where
  link : u.link = s.link
  targets : u.targets = s.targets
  zones : u.zones = s.zones
  pendingList : u.pendingList = s.pendingList
  sweep : u.sweep = s.sweep
  lines : u.lineL0 = s.lineL0 ∧ u.lineL1 = s.lineL1
  homeIn : u.homeIn = s.homeIn
  desired : (u.drive b).desired = (s.drive b).desired

theorem DriveOnly.refl (b : BayId) (s : State) : DriveOnly b s s := ⟨rfl, rfl, rfl, rfl, rfl, ⟨rfl, rfl⟩, rfl, rfl⟩

theorem DriveOnly.trans {b : BayId} {s t u : State} (h : DriveOnly b s t) (k : DriveOnly b t u) : DriveOnly b s u :=
  ⟨k.link.trans h.link, k.targets.trans h.targets, k.zones.trans h.zones, k.pendingList.trans h.pendingList,
    k.sweep.trans h.sweep, ⟨k.lines.1.trans h.lines.1, k.lines.2.trans h.lines.2⟩, k.homeIn.trans h.homeIn,
    k.desired.trans h.desired⟩

theorem DriveOnly.setDrive {b c : BayId} {s t : State} (h : DriveOnly b s t) (r : Drive)
    (e : r.desired = (t.drive c).desired := by rfl) : DriveOnly b s (t.setDrive c r) := by
  refine h.trans ⟨rfl, rfl, rfl, rfl, rfl, ⟨rfl, rfl⟩, rfl, ?_⟩
  rw [State.drive_setDrive]; split
  · rename_i hb; rw [hb, e]
  · rfl

theorem DriveOnly.setBay {b c : BayId} {s t : State} (h : DriveOnly b s t) (r : Bay) : DriveOnly b s (t.setBay c r) :=
  h.trans ⟨rfl, rfl, rfl, rfl, rfl, ⟨rfl, rfl⟩, rfl, rfl⟩

theorem DriveOnly.setGrantQueue {b : BayId} {s t : State} (h : DriveOnly b s t) (q : List BayId) :
    DriveOnly b s (t.setGrantQueue q) :=
  h.trans ⟨rfl, rfl, rfl, rfl, rfl, ⟨rfl, rfl⟩, rfl, rfl⟩

theorem DriveOnly.askPower {b c : BayId} {s t : State} (h : DriveOnly b s t) : DriveOnly b s (askPower c t) := by
  unfold Machine.askPower giveGrant; split
  · exact h.setDrive _
  · exact (h.setDrive _).setGrantQueue _

theorem DriveOnly.testMovement {b c : BayId} {s t : State} (h : DriveOnly b s t) : DriveOnly b s (testMovement c t) := by
  unfold Machine.testMovement; split
  · exact h.askPower
  · exact h

theorem DriveOnly.enterIdle {b c : BayId} {s t : State} (h : DriveOnly b s t) : DriveOnly b s (enterIdle c t) :=
  (h.setDrive _).testMovement

theorem DriveOnly.leaveQueue {b c : BayId} {s t : State} (h : DriveOnly b s t) : DriveOnly b s (leaveQueue c t) :=
  (h.setDrive _).setGrantQueue _

theorem DriveOnly.releasePower {b c : BayId} {s t : State} (h : DriveOnly b s t) : DriveOnly b s (releasePower c t) := by
  unfold Machine.releasePower giveGrant
  dsimp only
  split
  · exact h.setDrive _
  · exact ((h.setDrive _).setGrantQueue _).setDrive _

theorem DriveOnly.clearHalted {b c : BayId} {s t : State} (h : DriveOnly b s t) : DriveOnly b s (clearHalted c t) :=
  h.setBay _

theorem DriveOnly.loseDesired {b c : BayId} {s t : State} (h : DriveOnly b s t) : DriveOnly b s (loseDesired c t) := by
  unfold Machine.loseDesired
  dsimp only
  have release (r : Drive) (e : r.desired = (t.drive c).desired) :
      DriveOnly b s (if (t.drive c).pendingStop = .off then t else t.setDrive c r) := by
    split
    exacts [h, h.setDrive _ e]
  split
  · exact release _ rfl
  · exact release _ rfl
  · exact release _ rfl
  · exact (h.setDrive _).releasePower.enterIdle
  · exact (h.setDrive _).releasePower.enterIdle
  · exact h.leaveQueue.enterIdle
  · exact h

/-- A movement that starts with a known position away from the desired stop arrives nowhere yet. -/
theorem DriveOnly.startMovement {b c : BayId} {fin : Finisher} {following : Bool} {s t : State} (h : DriveOnly b s t)
    (hp : (t.drive c).position.isSome = true) (hd : (t.drive c).position ≠ (t.drive c).desired) :
    DriveOnly b s (startMovement fin c following t) := by
  unfold Machine.startMovement
  have hn : (t.drive c).position.isNone = false := by rw [Option.isNone_eq_false_iff]; exact hp
  simp only [hn, Bool.false_eq_true, if_false]
  unfold Machine.enterMoving
  simp only [State.drive_setDrive_same]
  rw [if_neg (fun a => hd a.2)]
  exact (h.setDrive _).setDrive _ (by simp)

/-- A change of desired stop of a drive that is not in HOLDING without a position. -/
theorem DriveOnly.changeDesired {b : BayId} {fin : Finisher} {following : Bool} {s t : State} (h : DriveOnly b s t)
    (hp : (t.drive b).state = .holding → (t.drive b).position.isSome = true) :
    DriveOnly b s (changeDesired fin b following t) := by
  unfold Machine.changeDesired
  have h1 : DriveOnly b s (Machine.clearHalted b (t.setDrive b { t.drive b with
      powerTimeout := false, pendingStop := (t.drive b).pendingStop.afterChange })) := (h.setDrive _).clearHalted
  simp only
  split
  · exact h1.testMovement
  · split
    · exact h1.leaveQueue.enterIdle
    · exact h1
  · exact h1.setDrive _
  · rename_i hs
    split
    · rename_i hm
      refine h1.startMovement ?_ ?_
      · simpa [Machine.clearHalted] using hp (by simpa [Machine.clearHalted] using hs)
      · simp only [movementNeeded, Bool.and_eq_true, bne_iff_ne] at hm
        exact hm.1.1.2
    · exact h1
  · exact h1

/-- The hand-off of a stop, or of none, that no fault context gives, to a drive that is not OFF. -/
theorem driveHandoff_quiet {b : BayId} {fin : Finisher} {handed : Option Nat} {s : State}
    (hs : (s.drive b).state ≠ .off) (hp : (s.drive b).state = .holding → (s.drive b).position.isSome = true) :
    DriveOnly b (s.setDrive b { s.drive b with desired := handed, following := false })
      (driveHandoff fin b handed false s) := by
  unfold driveHandoff
  have h := DriveOnly.refl b (s.setDrive b { s.drive b with desired := handed, following := false })
  simp only [hs, if_false, Bool.false_and, Bool.false_eq_true]
  split
  · exact h.loseDesired
  · split
    · refine h.changeDesired ?_
      simpa using hp
    · exact h

/-! ### An exposed context -/

/-- The one stack that holds an identity is the holder's. -/
theorem holderOf_eq {s : State} {t : TargetId} {i : Nat} (h : ∃ c ∈ (s.target t).above, c.identity = some i)
    (ho : ∀ t', t' ≠ t → ∀ c ∈ (s.target t').above, c.identity ≠ some i) : holderOf s i = some t := by
  unfold holderOf
  rcases hf : (allIds 64).find? _ with _ | y
  · rw [List.find?_eq_none] at hf
    obtain ⟨c, hc, hi⟩ := h
    have := hf t (mem_allIds t)
    simp only [List.any_eq_true, beq_iff_eq, not_exists, not_and] at this
    exact absurd hi (this c hc)
  · have := List.find?_some hf
    simp only [List.any_eq_true, beq_iff_eq] at this
    obtain ⟨c, hc, hi⟩ := this
    by_cases e : y = t
    · rw [e]
    · exact absurd hi (ho y e c hc)

/-- A removal that takes the active HOST context off a stack, where what it exposes can be handed on quietly. -/
theorem removeContexts_exposing {s : State} {t : TargetId} {keep : Context → Bool} {r : Target} {w : Bool}
    (hw : (w = true ↔ (s.target t).window = true ∨ r.active.origin = .fault))
    (hr : r = { s.target t with above := (s.target t).above.filter keep, window := w })
    (hh : (s.active t).origin = .host) (q : ExposedQuietly s t r) : removeContexts t keep s = s.setTarget t r := by
  unfold removeContexts
  dsimp only
  have hm : r.above = (s.target t).above.filter keep := by rw [hr]
  have htf : topFault (s.target t).above = false := by
    unfold topFault
    have : (s.active t).origin = .host := hh
    unfold State.active Target.active at this
    split
    · rfl
    · rename_i c l e; rw [e] at this; simp [show c.origin = .host from this]
  have hu : topUnlockedFault r.above = (r.active.origin == .fault) := by
    have h2 := q.2.1
    have hx : (∃ v, r.active.origin = .fault → r.active = ⟨.fault, 2, .fix, some v, 0, none, none, false⟩) := by
      rcases h2 with h | h | ⟨_, v, _, h, _⟩
      · exact ⟨0, fun e => by rw [h] at e; cases e⟩
      · exact ⟨0, fun e => by rw [h] at e; cases e⟩
      · exact ⟨v, fun _ => h⟩
    obtain ⟨v, hx⟩ := hx
    unfold topUnlockedFault
    rcases e : r.above with _ | ⟨c, l⟩
    · simp [Target.active, e, baseContext]
    · have ec : r.active = c := by simp [Target.active, e]
      rw [ec] at hx ⊢
      show (c.origin == .fault && !c.locked) = _
      by_cases ho : c.origin = .fault
      · rw [hx ho]; rfl
      · have hb : (c.origin == .fault) = false := by simpa using ho
        rw [hb]; rfl
  rw [htf, ← hm, hu]
  have : ((s.target t).window || (r.active.origin == .fault)) = w := by
    rw [Bool.eq_iff_iff, hw]; simp
  simp only [Bool.not_false, Bool.and_true]
  rw [this, hm]
  congr 1
  exact hr.symm

/-- What a zone takes from an exposed context, as `HandedOn` says it. -/
theorem Zone.takeContext_exposed (x : Zone) (c : Context) :
    (∀ v, c.origin = .base ∨ c.origin = .host → c.kind = .fix → c.value = some v → c.fade = 0 →
      (x.takeContext c).output = v ∧ (x.takeContext c).rampTarget = v) ∧
    (∀ v, c.origin = .base ∨ c.origin = .host → c.kind = .fix → c.value = some v → c.fade ≠ 0 →
      (x.takeContext c).output = x.output ∧ (x.takeContext c).rampTarget = v ∧
        (x.takeContext c).rates = .perSecond c.fade c.fade) ∧
    (∀ v, c = ⟨.fault, 2, .fix, some v, 0, none, none, false⟩ →
      (x.takeContext c).output = x.output ∧ (x.takeContext c).rampTarget = v ∧
        (x.takeContext c).rates = .perSecond x.cfg.upRate x.cfg.downRate) ∧
    (c.kind ≠ .fix → (x.takeContext c).output = x.output ∧
      (x.takeContext c).rates = .perSecond x.cfg.upRate x.cfg.downRate) := by
  rcases c with ⟨o, l, k, v, f, h, i, b⟩
  refine ⟨?_, ?_, ?_, ?_⟩
  · rintro w (rfl | rfl) rfl rfl rfl <;> exact ⟨rfl, rfl⟩
  · rintro w (rfl | rfl) rfl rfl hf <;>
      simp [Zone.takeContext, show f ≠ 0 from hf]
  · rintro w e; cases e; simp [Zone.takeContext, ZoneConfig.rates]
  · intro hk
    cases k
    · simp [Zone.takeContext, ZoneConfig.rates]
    · exact absurd rfl hk
    · simp [Zone.takeContext, ZoneConfig.rates]
    · simp [Zone.takeContext, ZoneConfig.rates]

/-- What the end of a claim that exposed a context does where that context can be handed on quietly: the hand-off, the TARGET
CHANGE, and nothing to the sweep; at a zone nothing to the bays, the channels' store, the responses or the calibration
record. -/
theorem finish_exposed {t : TargetId} {before : Context} {s : State} {r : Target} (hr : s.target t = r)
    (q : ExposedQuietly s t r) (hc : sameContext before r.active = false) (hn : NoZoneCalibrating s) :
    HandedOn s (finish t before s) t r ∧ (finish t before s).link = noticesLink (changeNotice t r) s.link ∧
      (finish t before s).sweep = s.sweep ∧
      (∀ z, t = zoneTarget z → (finish t before s).bays = s.bays ∧ (finish t before s).responses = s.responses ∧
        (finish t before s).seconds = s.seconds ∧ ((finish t before s).zone z).cal = (s.zone z).cal) := by
  obtain ⟨ha, ho, hz, hb⟩ := q
  have hf : finish t before s = checkPreempted (finishClaim 5) (handTarget (finishClaim 5) t (noteChange t s)) := by
    refine finish_of_changed (by rw [hr]; exact ha) ?_
    show sameContext before (s.target t).active = false
    rw [hr]; exact hc
  generalize hg : finish t before s = u at hf ⊢
  have hnote := noteChange_eq t s
  rw [hr] at hnote
  generalize hk : noticesLink (changeNotice t r) s.link = k at hnote ⊢
  have hact : (s.setLink k).active t = r.active := by show (s.target t).active = _; rw [hr]
  rcases target_cases t with ⟨z, rfl⟩ | ⟨b, rfl⟩
  · have hq : handTarget (finishClaim 5) (zoneTarget z) (s.setLink k) =
        putZone z ((s.zone z).takeContext r.active) (s.setLink k) := by
      unfold handTarget
      rw [viewTarget_zoneTarget]
      refine handZone_quiet hact (hz z rfl) ?_
      rcases ho with h | h | ⟨z', v, e, h, hv⟩
      · exact .inl (by rw [h]; decide)
      · exact .inl (by rw [h]; decide)
      · right
        obtain rfl := zoneTarget_inj e
        have := ((Zone.takeContext_exposed (s.zone z) r.active).2.2.1 v h).1
        show _ ≠ some ((s.zone z).takeContext r.active).output
        rw [this, h]
        exact fun e => hv (Option.some.inj e)
    rw [hnote, hq] at hf
    obtain ⟨l0, l1, hput⟩ := putZone_eq z ((s.zone z).takeContext r.active) (s.setLink k)
    rw [hput] at hf
    replace hf := hf.trans (checkPreempted_of_none (show NoZoneCalibrating _ from hn))
    have hzone : u.zone z = (s.zone z).takeContext r.active := by
      rw [hf]; exact State.zone_setZone_same _ _ _
    obtain ⟨x1, x2, x3, x4⟩ := Zone.takeContext_exposed (s.zone z) r.active
    have horigin : r.active.origin ≠ .fault → r.active.origin = .base ∨ r.active.origin = .host := by
      intro hne
      rcases ho with h | h | ⟨_, _, _, h, _⟩
      · exact .inl h
      · exact .inr h
      · exact absurd (by rw [h]) hne
    refine ⟨⟨by rw [hf]; exact hr, fun x _ => by rw [hf]; rfl, by rw [hf]; rfl, ?_, ?_, ?_, ?_, ?_, ?_⟩, by rw [hf]; rfl,
      by rw [hf]; rfl, ?_⟩
    · intro z' e; obtain rfl := zoneTarget_inj e
      rw [hzone, Zone.takeContext_copy]; rfl
    · intro z' v e h1 h2 h3 h4; obtain rfl := zoneTarget_inj e
      rw [hzone]; exact x1 v (horigin h1) h2 h3 h4
    · intro z' v e h1 h2 h3 h4; obtain rfl := zoneTarget_inj e
      rw [hzone]; exact x2 v (horigin h1) h2 h3 h4
    · intro z' v e h1 h2; obtain rfl := zoneTarget_inj e
      rw [hzone]
      rcases ho with h | h | ⟨_, w, _, h, _⟩
      · rw [h] at h1; cases h1
      · rw [h] at h1; cases h1
      · have : w = v := by rw [h] at h2; exact Option.some.inj h2
        subst this; exact x3 w h
    · intro z' e h1; obtain rfl := zoneTarget_inj e
      rw [hzone]; exact x4 h1
    · intro b e; exact absurd e (zoneTarget_ne_shadeTarget z b)
    · intro z' e; obtain rfl := zoneTarget_inj e
      exact ⟨by rw [hf]; rfl, by rw [hf]; rfl, by rw [hf]; rfl, by rw [hzone, Zone.takeContext_cal]⟩
  · have ho' : r.active.origin ≠ .fault := by
      rcases ho with h | h | ⟨z, _, e, _⟩
      · rw [h]; decide
      · rw [h]; decide
      · exact absurd e.symm (zoneTarget_ne_shadeTarget z b)
    have hd : desiredOf r.active = r.active.value := by simp [desiredOf, ho']
    have hfol : followsFault r.active = false := by simp [followsFault, ho']
    have hq : handTarget (finishClaim 5) (shadeTarget b) (s.setLink k) =
        driveHandoff (finishClaim 5) b r.active.value false (s.setLink k) := by
      unfold handTarget
      rw [viewTarget_shadeTarget, hact, hd, hfol]
    rw [hnote, hq] at hf
    have notZone : ∀ z, shadeTarget b ≠ zoneTarget z := fun z e => zoneTarget_ne_shadeTarget z b e.symm
    have key : ∀ w, DriveOnly b (s.setDrive b { s.drive b with desired := (w.drive b).desired, following := false })
        (w.setLink s.link) → w.link = k → u = checkPreempted (finishClaim 5) w →
        ((s.drive b).state ≠ .off → (w.drive b).desired = r.active.value) →
        HandedOn s u (shadeTarget b) r ∧ u.link = k ∧ u.sweep = s.sweep := by
      intro w hw hl hu hdes
      have hs : w.sweep = s.sweep := hw.sweep
      have ht : w.targets = s.targets := hw.targets
      have hp : w.pendingList = s.pendingList := hw.pendingList
      replace hu := hu.trans (checkPreempted_of_none (by show w.sweep.current = none; rw [hs]; exact hn))
      rw [hu]
      refine ⟨⟨by show w.targets.get _ = r; rw [ht]; exact hr, fun x _ => by show w.targets.get x = _; rw [ht]; rfl, hp,
        fun z e => absurd e (notZone z), fun z _ e => absurd e (notZone z), fun z _ e => absurd e (notZone z),
        fun z _ e => absurd e (notZone z), fun z e => absurd e (notZone z), ?_⟩, hl, hs⟩
      intro c e hne
      obtain rfl := shadeTarget_inj e
      exact hdes hne
    by_cases hoff : (s.drive b).state = .off
    · have hsame : driveHandoff (finishClaim 5) b r.active.value false (s.setLink k) = s.setLink k := by
        have h1 : ((s.setLink k).drive b).state = .off := hoff
        unfold driveHandoff
        simp only [h1, if_true]
      rw [hsame] at hf
      obtain ⟨x, y, z⟩ : HandedOn s u (shadeTarget b) r ∧ u.link = k ∧ u.sweep = s.sweep := by
        replace hf := hf.trans (checkPreempted_of_none (show NoZoneCalibrating _ from hn))
        rw [hf]
        exact ⟨⟨hr, fun x _ => rfl, rfl, fun z e => absurd e (notZone z), fun z _ e => absurd e (notZone z),
          fun z _ e => absurd e (notZone z), fun z _ e => absurd e (notZone z), fun z e => absurd e (notZone z),
          fun c e hne => absurd (by obtain rfl := shadeTarget_inj e; exact hoff) hne⟩, rfl, rfl⟩
      exact ⟨x, y, z, fun z e => absurd e (notZone z)⟩
    · have hw := driveHandoff_quiet (fin := finishClaim 5) (handed := r.active.value) (s := s.setLink k) (b := b) hoff
        (hb b rfl)
      have hdes : ((driveHandoff (finishClaim 5) b r.active.value false (s.setLink k)).drive b).desired = r.active.value := by
        rw [hw.desired]; simp
      obtain ⟨x, y, z⟩ := key _ ⟨rfl, hw.targets, hw.zones, hw.pendingList, hw.sweep, hw.lines, hw.homeIn, by
        rw [State.drive_setDrive_same]; rfl⟩ (by rw [hw.link]; rfl) hf (fun _ => hdes)
      exact ⟨x, y, z, fun z e => absurd e (notZone z)⟩

/-- A hand-off from a state that the claim has made is one from the state before it. -/
theorem HandedOn.of_claim {s s' u : State} {t : TargetId} {r : Target} (h : HandedOn s' u t r)
    (others : ∀ x, x ≠ t → s'.target x = s.target x) (entries : s'.pendingList = s.pendingList)
    (zones : ∀ z, t = zoneTarget z → (s'.zone z).output = (s.zone z).output ∧ (s'.zone z).cfg = (s.zone z).cfg)
    (drives : s'.drives = s.drives) : HandedOn s u t r where
  target := h.target
  others x e := (h.others x e).trans (others x e)
  entries := h.entries.trans entries
  copy := h.copy
  immediate := h.immediate
  fading z v e a b c d := by rw [← (zones z e).1]; exact h.fading z v e a b c d
  fallback z v e a b := by rw [← (zones z e).1, ← (zones z e).2]; exact h.fallback z v e a b
  automatic z e a := by rw [← (zones z e).1, ← (zones z e).2]; exact h.automatic z e a
  stop b e a := h.stop b e (by show (s'.drives.get b).state ≠ _; rw [drives]; exact a)

/-! ### A HOST context taken at once -/

/-- A free identity is not that of the active context. -/
theorem identity_active {s : State} {t : TargetId} {i : Nat} (h : ¬ IdentityTaken s i) :
    (s.target t).active.identity ≠ some i := by
  unfold Target.active
  rcases he : (s.target t).above with _ | ⟨c, l⟩
  · exact fun e => by cases e
  · exact fun e => h (.inl ⟨t, c, by rw [he]; exact List.mem_cons_self, e⟩)

/-- A push above a base or HOST context. -/
theorem pushClaim_plain {s : State} {t : TargetId} {r : Target} {c : Context} (hr : s.target t = r)
    (ho : r.active.origin = .base ∨ r.active.origin = .host) :
    pushClaim t c s = s.setTarget t { r with above := c :: r.above } := by
  subst hr
  unfold pushClaim pushContext
  rcases hra : (s.target t).above with _ | ⟨x, l⟩
  · simp [hra]
  · have hac : (s.target t).active = x := by simp [Target.active, hra]
    rw [hac] at ho
    rcases ho with ho | ho <;> simp [hra, ho]

/-- A push above a fault context closes its window; without entries the offer finds nothing. -/
theorem pushClaim_fault {s : State} {t : TargetId} {r : Target} {c : Context} (hr : s.target t = r)
    (ho : r.active.origin = .fault) (hn : NoEntries s t) :
    pushClaim t c s = s.setTarget t { r with above := c :: r.above, window := false } := by
  subst hr
  unfold pushClaim pushContext
  rcases hra : (s.target t).above with _ | ⟨x, l⟩
  · simp [Target.active, hra, baseContext] at ho
  · have hac : (s.target t).active = x := by simp [Target.active, hra]
    rw [hac] at ho
    simp only [hra, ho]
    rw [offer_of_noEntries (s := State.setTarget _ _ _) hn]
    split <;> rfl

/-- A push above the CALIBRATE context takes its place; without entries the offer finds nothing. -/
theorem pushClaim_calibrate {s : State} {t : TargetId} {r : Target} {c x : Context} {rest : List Context}
    (hr : s.target t = r) (ha : r.above = x :: rest) (ho : x.origin = .calibrate) (hn : NoEntries s t) :
    pushClaim t c s = s.setTarget t { r with above := c :: rest } := by
  subst hr
  unfold pushClaim pushContext
  simp only [ha, ho, if_true]
  exact offer_of_noEntries (s := State.setTarget _ _ _) hn

/-- The ramp tick timer at the end of an event, as one record update. -/
theorem Zone.settleRamp_eq (y : Zone) : y.settleRamp =
    { y with rampTimer := if y.output = y.rampTarget then none else some (y.rampTimer.getD 100) } := by
  unfold Zone.settleRamp
  split_ifs with h1 h2
  · rfl
  · rw [Option.isNone_iff_eq_none.1 h2]; rfl
  · rcases h : y.rampTimer with _ | k
    · simp [h] at h2
    · cases y; simp_all

/-- What a zone takes from the HOST context of a request, by its kind and fade rate. -/
theorem Zone.takeContext_host (x : Zone) (p : RequestPayload) (kind : Kind) :
    ∀ copy, copy = (⟨.host, kind, p.level.toNat, some p.value.toNat, p.fade.toNat, false⟩ : ContextCopy) →
      (kind = .fix → p.fade = 0 → x.takeContext (p.contextOf kind) = { x with
        output := p.value.toNat, rampTarget := p.value.toNat, rampTimer := none, rates := .immediate, copy := copy }) ∧
      (kind = .fix → p.fade ≠ 0 → x.takeContext (p.contextOf kind) = { x with
        rampTarget := p.value.toNat, rates := .perSecond p.fade.toNat p.fade.toNat, copy := copy
        rampTimer := if x.output = p.value.toNat then none else some (x.rampTimer.getD 100) }) ∧
      (kind ≠ .fix → ∀ upper, (kind = .cap ∧ upper = min x.cfg.maxLevel p.value.toNat) ∨
          (kind ≠ .cap ∧ upper = x.cfg.maxLevel) →
        ∀ goal, goal = min (max x.rampTarget x.cfg.minLevel) upper →
        x.takeContext (p.contextOf kind) = { x with
          rampTarget := goal, rates := .perSecond x.cfg.upRate x.cfg.downRate, copy := copy
          rampTimer := if x.output = goal then none else some (x.rampTimer.getD 100) }) := by
  rintro copy rfl
  have hfade : p.fade = 0 ↔ p.fade.toNat = 0 :=
    ⟨fun h => by rw [h]; rfl, fun h => BitVec.eq_of_toNat_eq (by simpa using h)⟩
  refine ⟨?_, ?_, ?_⟩
  · rintro rfl hf
    simp [Zone.takeContext, RequestPayload.contextOf, hfade.1 hf, Zone.setImmediate, Context.copy]
  · rintro rfl hf
    have : p.fade.toNat ≠ 0 := fun e => hf (hfade.2 e)
    simp [Zone.takeContext, RequestPayload.contextOf, this, Context.copy, Zone.settleRamp_eq]
  · intro hk upper hu goal hg
    have hc : clampLevel x.cfg (p.contextOf kind).copy x.rampTarget = goal := by
      rw [hg]
      rcases hu with ⟨rfl, rfl⟩ | ⟨hn, rfl⟩
      · rfl
      · unfold clampLevel
        cases kind <;> first | rfl | exact absurd rfl hn
    have ht : x.takeContext (p.contextOf kind) = ({ x with
        copy := (p.contextOf kind).copy
        rampTarget := clampLevel x.cfg (p.contextOf kind).copy x.rampTarget
        rates := x.cfg.rates } : Zone).settleRamp := by
      cases kind
      · rfl
      · exact absurd rfl hk
      · rfl
      · rfl
    rw [ht, hc, Zone.settleRamp_eq]
    rfl

/-! ### Motion-start -/

/-- Motion-start at zones: the ACTIVE ones begin to settle, and nothing else changes (R55). -/
theorem motionStart_zones (l : List ZoneId) (hn : l.Nodup) (s : State) :
    ∃ zs : Vector Zone 48, l.foldl (fun s z => zoneMotionStart z s) s = { s with zones := zs } ∧
      ∀ z, zs.get z =
        if z ∈ l ∧ (s.target (zoneTarget z)).state = .active then
          { s.zone z with settling := true, settleTimer := none }
        else s.zone z := by
  induction l generalizing s with
  | nil => exact ⟨s.zones, rfl, fun z => by simp; rfl⟩
  | cons x l ih =>
    obtain ⟨hx, hl⟩ := List.nodup_cons.1 hn
    obtain ⟨zs, h1, h2⟩ := ih hl (zoneMotionStart x s)
    have e : ∃ z1, zoneMotionStart x s = { s with zones := z1 } ∧ ∀ z, z1.get z =
        if z = x ∧ (s.target (zoneTarget z)).state = .active then
          { s.zone z with settling := true, settleTimer := none }
        else s.zone z := by
      unfold zoneMotionStart
      split
      · rename_i ha
        refine ⟨_, rfl, fun z => ?_⟩
        refine (State.zone_setZone s x _ z).trans ?_
        by_cases hz : z = x
        · subst hz
          rw [if_pos rfl, if_pos ⟨rfl, by simpa [Target.isActive] using ha⟩]
        · rw [if_neg hz, if_neg (fun h => hz h.1)]
      · rename_i ha
        refine ⟨s.zones, rfl, fun z => ?_⟩
        rw [if_neg]
        · rfl
        · rintro ⟨rfl, h⟩; exact ha (by simp [Target.isActive, h])
    obtain ⟨z1, e1, e2⟩ := e
    refine ⟨zs, by rw [List.foldl_cons, h1, e1], fun z => ?_⟩
    rw [h2 z, e1]
    show (if z ∈ l ∧ (s.target _).state = _ then { z1.get z with settling := true, settleTimer := none }
      else z1.get z) = _
    rw [e2 z]
    by_cases hz : z = x
    · subst hz
      simp [hx]
    · simp [hz]

/-! ### DISABLE -/

/-- The DISCARDED notices of a target's entries, one after another. -/
theorem noticesLink_entries (t : TargetId) (l : List Entry) (h : ∀ e ∈ l, e.target = t) (k : LinkPort) :
    l.foldl (fun k e => noticeLink (.requestState e.identity e.target e.level .discarded) k) k =
      noticesLink (l.map fun e => Record.requestState e.identity t e.level .discarded) k := by
  induction l generalizing k with
  | nil => rfl
  | cons e l ih =>
    rw [List.foldl_cons, ih (fun x hx => h x (List.mem_cons_of_mem _ hx)), h e List.mem_cons_self]
    rfl

/-- The DISCARDED notices of contexts, one after another; contexts other than HOST give none. -/
theorem noticesLink_contexts (t : TargetId) (l : List Context) (k : LinkPort) :
    l.foldl (fun k (c : Context) => noticesLink (c.identity.toList.map fun i => .requestState i t c.level .discarded) k) k =
      noticesLink (l.filterMap fun c => c.identity.map fun i => Record.requestState i t c.level .discarded) k := by
  induction l generalizing k with
  | nil => rfl
  | cons c l ih =>
    rw [List.foldl_cons, ih]
    rcases hc : c.identity with _ | i <;> simp [hc]

/-- The Arbiter's and the Fault Unit's part of DISABLE: the target's record and entries, and the notices in order: DISCARDED of
its entries and its contexts, FAULT CLEARED of a locked record, and the TARGET CHANGE of a watched target (R18). -/
theorem dismissTarget_eq {s : State} {t : TargetId} {r : Target} (hr : s.target t = r)
    (removed unlocked changed : List Record)
    (h1 : removed = (s.pendingList.filter fun e => e.target = t).map (fun e =>
        Record.requestState e.identity t e.level .discarded) ++
      r.above.filterMap (fun c => c.identity.map fun i => .requestState i t c.level .discarded))
    (h2 : (r.locked = false ∧ unlocked = []) ∨
      (r.locked = true ∧ ∀ f, r.fault = some f →
        unlocked = [Record.faultCleared t .disable f.firstClass f.superseded]))
    (h3 : changed = (if r.above ≠ [] ∧ r.watch = true then
      [Record.targetChange t .base .auto 15 r.baseValue none false] else [])) :
    dismissTarget t s =
      ((s.setTarget t { r with
          state := .dormant, above := [], window := false, fault := if r.locked then none else r.fault }).setPendingList
        (s.pendingList.filter fun e => e.target ≠ t)).setLink (noticesLink (removed ++ unlocked ++ changed) s.link) := by
  subst hr
  generalize hr : s.target t = r at h1 h2 h3 ⊢
  have entries (u : State) :
      (s.pendingList.filter fun e => e.target == t).foldl (fun s e => entryNotice .discarded e s) u =
        u.setLink (noticesLink ((s.pendingList.filter fun e => e.target = t).map fun e =>
          Record.requestState e.identity t e.level .discarded) u.link) := by
    rw [foldl_setLink (g := fun e k => noticeLink (.requestState e.identity e.target e.level .discarded) k)
      (fun s e => by unfold entryNotice; rw [offerNotice_eq]), noticesLink_entries t _ (by simp)]
    rfl
  have contexts (u : State) : r.above.foldl (fun s c => contextNotice t .discarded c s) u =
      u.setLink (noticesLink (r.above.filterMap fun c => c.identity.map fun i =>
        Record.requestState i t c.level .discarded) u.link) := by
    rw [foldl_setLink (g := fun (c : Context) k =>
        noticesLink (c.identity.toList.map fun i => .requestState i t c.level .discarded) k)
      (fun s c => by rw [contextNotice_eq]), noticesLink_contexts]
  have kept : (s.pendingList.filter fun e => e.target ≠ t) = s.pendingList.filter fun e => e.target != t := by
    congr 1; funext e; by_cases h : e.target = t <;> simp [h]
  -- the target out of service with its record `f`, and the link `k`
  let out (f : Option FaultRecord) (k : LinkPort) : State :=
    ((s.setTarget t { r with state := .dormant, above := [], window := false, fault := f }).setPendingList
      (s.pendingList.filter fun e => e.target != t)).setLink k
  have removedNoted :
      ((((s.setPendingList (s.pendingList.filter fun e => e.target != t)).setLink
          (noticesLink ((s.pendingList.filter fun e => e.target = t).map fun e =>
            Record.requestState e.identity t e.level .discarded) s.link)).setTarget t
              { r with state := .dormant, above := [], window := false }).setLink
        (noticesLink (r.above.filterMap fun c => c.identity.map fun i => Record.requestState i t c.level .discarded)
          (noticesLink ((s.pendingList.filter fun e => e.target = t).map fun e =>
            Record.requestState e.identity t e.level .discarded) s.link))) = out r.fault (noticesLink removed s.link) := by
    rw [h1, noticesLink_append]; rfl
  have cleared (k : LinkPort) :
      (match r.fault with
        | some f => if f.lockMark then clearRecord t .disable f (out r.fault k) else out r.fault k
        | none => out r.fault k) = out (if r.locked then none else r.fault) (noticesLink unlocked k) := by
    rcases hf : r.fault with _ | f
    · rcases h2 with ⟨h, rfl⟩ | ⟨h, _⟩
      · simp [h]
      · simp [Target.locked, hf] at h
    · rcases h2 with ⟨h, rfl⟩ | ⟨h, h2⟩
      · have : f.lockMark = false := by simpa [Target.locked, hf] using h
        simp [h, this]
      · have : f.lockMark = true := by simpa [Target.locked, hf] using h
        rw [h2 f hf]
        simp only [this, if_true, h]
        unfold clearRecord
        rw [offerNotice_eq]
        show (State.setTarget _ t { (out (some f) k).target t with fault := none }).setLink _ = _
        rw [show (out (some f) k).target t = _ from State.target_setTarget_same _ _ _]
        exact congrArg (fun u : State => (u.setPendingList (s.pendingList.filter fun e => e.target != t)).setLink
          (noticeLink (.faultCleared t .disable f.firstClass f.superseded) k))
          (State.setTarget_setTarget s t { r with state := .dormant, above := [], window := false, fault := some f }
            { r with state := .dormant, above := [], window := false, fault := none })
  rw [kept, noticesLink_append, noticesLink_append]
  unfold dismissTarget
  dsimp only
  rw [hr, entries, contexts]
  refine (congrArg (fun X => if r.above.isEmpty then X else noteChange t X)
    ((congrArg (fun Y => match r.fault with
      | some f => if f.lockMark then clearRecord t .disable f Y else Y
      | none => Y) removedNoted).trans (cleared _))).trans ?_
  by_cases hab : r.above = []
  · have h4 : changed = [] := h3.trans (if_neg (fun h => h.1 hab))
    rw [if_pos (List.isEmpty_iff.2 hab), h4]; rfl
  · rw [if_neg (by rw [List.isEmpty_iff]; exact hab), noteChange_eq]
    rw [show (out (if r.locked then none else r.fault) (noticesLink unlocked (noticesLink removed s.link))).target t = _ from
      State.target_setTarget_same _ _ _]
    unfold changeNotice
    by_cases hw : r.watch = true
    · rw [if_pos hw, h3.trans (if_pos ⟨hab, hw⟩)]; rfl
    · rw [if_neg hw, h3.trans (if_neg (fun h => hw h.2))]; rfl

end Sys2Proof.Machine
end

