-- ==== Sys2Proof/Laws/PerInstr.lean ====
section
/-! SUPPORT. Families of statements made for every row: one lemma for each constructor. -/

namespace Sys2Proof.Laws.WellFormedRow

open Sys2Proof Sys2Proof.Machine

/-- The check of a host command's row is the check of the command it carries. -/
def Statement (i : Instr) : Prop := ∀ h c, Command.row h c = i → WellFormed i = c.wellFormed

theorem configureZone (h) (p) : Statement (.configureZone h p) := by
  intro h' c e; cases c <;> cases e
  rfl

theorem configureBay (h) (p) : Statement (.configureBay h p) := by
  intro h' c e; cases c <;> cases e
  rfl

theorem configureSensor (h) (channel) (p) : Statement (.configureSensor h channel p) := by
  intro h' c e; cases c <;> cases e
  rfl

theorem configureSensorAll (h) (p) : Statement (.configureSensorAll h p) := by
  intro h' c e; cases c <;> cases e
  rfl

theorem configureLuminaire (h) (p) : Statement (.configureLuminaire h p) := by
  intro h' c e; cases c <;> cases e
  rfl

theorem setResponse (h) (p) : Statement (.setResponse h p) := by
  intro h' c e; cases c <;> cases e
  rfl

theorem setLink (h) (threshold) (audit) : Statement (.setLink h threshold audit) := by
  intro h' c e; cases c <;> cases e
  rfl

theorem enable (h) (target) : Statement (.enable h target) := by
  intro h' c e; cases c <;> cases e
  rfl

theorem disable (h) (target) : Statement (.disable h target) := by
  intro h' c e; cases c <;> cases e
  rfl

theorem request (h) (p) : Statement (.request h p) := by
  intro h' c e; cases c <;> cases e
  rfl

theorem release (h) (identity) : Statement (.release h identity) := by
  intro h' c e; cases c <;> cases e
  rfl

theorem clearFault (h) (target) : Statement (.clearFault h target) := by
  intro h' c e; cases c <;> cases e
  rfl

theorem watch (h) (target) (setting) : Statement (.watch h target setting) := by
  intro h' c e; cases c <;> cases e
  rfl

theorem calibrate (h) (first) (last) (settle) : Statement (.calibrate h first last settle) := by
  intro h' c e; cases c <;> cases e
  rfl

theorem stopShadesNow (h) : Statement (.stopShadesNow h) := by
  intro h' c e; cases c <;> cases e
  rfl

theorem stopSweepNow (h) : Statement (.stopSweepNow h) := by
  intro h' c e; cases c <;> cases e
  rfl

theorem stopSweepAfterZone (h) : Statement (.stopSweepAfterZone h) := by
  intro h' c e; cases c <;> cases e
  rfl

theorem shadeHome (h) (bay) : Statement (.shadeHome h bay) := by
  intro h' c e; cases c <;> cases e
  rfl

theorem busHold (h) (line) : Statement (.busHold h line) := by
  intro h' c e; cases c <;> cases e
  rfl

theorem busRelease (h) (line) : Statement (.busRelease h line) := by
  intro h' c e; cases c <;> cases e
  rfl

theorem queryTarget (h) (index) : Statement (.queryTarget h index) := by
  intro h' c e; cases c <;> cases e
  rfl

theorem queryZone (h) (index) : Statement (.queryZone h index) := by
  intro h' c e; cases c <;> cases e
  rfl

theorem queryBay (h) (index) : Statement (.queryBay h index) := by
  intro h' c e; cases c <;> cases e
  rfl

theorem querySensor (h) (index) : Statement (.querySensor h index) := by
  intro h' c e; cases c <;> cases e
  rfl

theorem querySensorAll (h) : Statement (.querySensorAll h) := by
  intro h' c e; cases c <;> cases e
  rfl

theorem queryLuminaire (h) (line) (address) : Statement (.queryLuminaire h line address) := by
  intro h' c e; cases c <;> cases e
  rfl

theorem queryLuminaireAll (h) (line) : Statement (.queryLuminaireAll h line) := by
  intro h' c e; cases c <;> cases e
  rfl

theorem queryFault (h) (start) (target) : Statement (.queryFault h start target) := by
  intro h' c e; cases c <;> cases e
  rfl

theorem queryPending (h) (index) : Statement (.queryPending h index) := by
  intro h' c e; cases c <;> cases e
  rfl

theorem querySweep (h) (index) : Statement (.querySweep h index) := by
  intro h' c e; cases c <;> cases e
  rfl

theorem resetPart (h) : Statement (.resetPart h) := by
  intro h' c e; cases c <;> cases e
  rfl

theorem unknownKind (h) (code) (payload) : Statement (.unknownKind h code payload) := by
  intro h' c e; cases c <;> cases e

theorem rstNAsserted : Statement .rstNAsserted := by
  intro h' c e; cases c <;> cases e

theorem rstNDeasserted : Statement .rstNDeasserted := by
  intro h' c e; cases c <;> cases e

theorem frameReceived (body) (check) : Statement (.frameReceived body check) := by
  intro h' c e; cases c <;> cases e

theorem gapTimerExpiry : Statement .gapTimerExpiry := by
  intro h' c e; cases c <;> cases e

theorem hrdyAsserted : Statement .hrdyAsserted := by
  intro h' c e; cases c <;> cases e

theorem hrdyDeasserted : Statement .hrdyDeasserted := by
  intro h' c e; cases c <;> cases e

theorem transmitStart : Statement .transmitStart := by
  intro h' c e; cases c <;> cases e

theorem frameSent : Statement .frameSent := by
  intro h' c e; cases c <;> cases e

theorem scanTimerExpiry : Statement .scanTimerExpiry := by
  intro h' c e; cases c <;> cases e

theorem owedScanStart : Statement .owedScanStart := by
  intro h' c e; cases c <;> cases e

theorem sensorAnswer (channel) (raw) (arrival) : Statement (.sensorAnswer channel raw arrival) := by
  intro h' c e; cases c <;> cases e

theorem sensorAnswerTimeout : Statement .sensorAnswerTimeout := by
  intro h' c e; cases c <;> cases e

theorem rampTick (z) : Statement (.rampTick z) := by
  intro h' c e; cases c <;> cases e

theorem settleTimerExpiry (z) : Statement (.settleTimerExpiry z) := by
  intro h' c e; cases c <;> cases e

theorem readingTimerExpiry (z) : Statement (.readingTimerExpiry z) := by
  intro h' c e; cases c <;> cases e

theorem glareHoldExpiry (b) : Statement (.glareHoldExpiry b) := by
  intro h' c e; cases c <;> cases e

theorem holdExpiry (identity) : Statement (.holdExpiry identity) := by
  intro h' c e; cases c <;> cases e

theorem waitExpiry (identity) : Statement (.waitExpiry identity) := by
  intro h' c e; cases c <;> cases e

theorem stepEvent (b) (home) (mark) : Statement (.stepEvent b home mark) := by
  intro h' c e; cases c <;> cases e

theorem energiseTimerExpiry (b) (home) (mark) : Statement (.energiseTimerExpiry b home mark) := by
  intro h' c e; cases c <;> cases e

theorem driveHoldTimerExpiry (b) : Statement (.driveHoldTimerExpiry b) := by
  intro h' c e; cases c <;> cases e

theorem powerWaitTimeout (b) : Statement (.powerWaitTimeout b) := by
  intro h' c e; cases c <;> cases e

theorem luminaireAnswer (l) (level) (arrival) : Statement (.luminaireAnswer l level arrival) := by
  intro h' c e; cases c <;> cases e

theorem luminaireAnswerTimeout (l) : Statement (.luminaireAnswerTimeout l) := by
  intro h' c e; cases c <;> cases e

theorem auditTimerExpiry (l) : Statement (.auditTimerExpiry l) := by
  intro h' c e; cases c <;> cases e

theorem updateTransactionStart (l) : Statement (.updateTransactionStart l) := by
  intro h' c e; cases c <;> cases e

theorem audit (l) : Statement (.audit l) := by
  intro h' c e; cases c <;> cases e

theorem phaseTimerExpiry : Statement .phaseTimerExpiry := by
  intro h' c e; cases c <;> cases e

theorem secondsCounterTick : Statement .secondsCounterTick := by
  intro h' c e; cases c <;> cases e

theorem byteTaken (b) (good) : Statement (.byteTaken b good) := by
  intro h' c e; cases c <;> cases e

end Sys2Proof.Laws.WellFormedRow
end

