-- ==== Sys2Proof/Laws/Sweeps.lean ====
section
/-! SUPPORT. What the sequencer's shared operations do: a value change and the pop of the CALIBRATE context, and a zone that
ends with the sweep. -/

namespace Sys2Proof.Machine

open Sys2Proof

/-- A value change of the CALIBRATE context of the zone being calibrated. -/
theorem changeValue_taken {s : State} {z : ZoneId} {v w : Nat} {rest : List Context} (h : Calibrating s z v rest)
    (hv : v ≠ w) (x : Sweep) (hx : x.current = some z) :
    CalibrateValueTaken s (changeValue finish z w (s.setSweep x)) z w rest ∧
      (changeValue finish z w (s.setSweep x)).sweep = x := by
  obtain ⟨_, ha, ht, hb⟩ := h
  generalize hr : ({ s.target (zoneTarget z) with
    above := ⟨.calibrate, 12, .fix, some w, 0, none, none, false⟩ :: rest } : Target) = r
  have hmap : (s.target (zoneTarget z)).above.map
      (fun c => if c.origin == .calibrate then { c with value := some w } else c) =
      ⟨.calibrate, 12, .fix, some w, 0, none, none, false⟩ :: rest := by
    rw [ht, List.map_cons]
    congr 1
    conv_rhs => rw [← List.map_id rest]
    refine List.map_congr_left fun c hc => ?_
    simp [hb c hc]
  have hact : r.active = ⟨.calibrate, 12, .fix, some w, 0, none, none, false⟩ := by subst hr; rfl
  generalize hk : noticesLink (changeNotice (zoneTarget z) r) s.link = k
  have e1 : changeValue finish z w (s.setSweep x) =
      finish (zoneTarget z) (s.active (zoneTarget z)) ((s.setSweep x).setTarget (zoneTarget z) r) := by
    unfold changeValue
    dsimp only
    rw [show ((s.setSweep x).target (zoneTarget z)) = s.target (zoneTarget z) from rfl, hmap, hr]
    rfl
  have hs : s.active (zoneTarget z) = ⟨.calibrate, 12, .fix, some v, 0, none, none, false⟩ := by
    simp [State.active, Target.active, ht]
  have e2 : finish (zoneTarget z) (s.active (zoneTarget z)) ((s.setSweep x).setTarget (zoneTarget z) r) =
      checkPreempted (finishClaim 5) (handTarget (finishClaim 5) (zoneTarget z)
        (((s.setSweep x).setTarget (zoneTarget z) r).setLink k)) := by
    rw [finish_of_changed]
    · rw [noteChange_eq, State.target_setTarget_same]; subst hk; rfl
    · rw [State.target_setTarget_same]; subst hr; exact ha
    · rw [hs]
      refine sameContext_of_value ?_
      show _ ≠ ((State.target _ _).active).value
      rw [State.target_setTarget_same, hact]
      exact fun e => hv (Option.some.inj e)
  have e3 : handTarget (finishClaim 5) (zoneTarget z) (((s.setSweep x).setTarget (zoneTarget z) r).setLink k) =
      putZone z ((s.zone z).setImmediate w |> fun y => { y with copy := ⟨.calibrate, .fix, 12, some w, 0, false⟩ })
        (((s.setSweep x).setTarget (zoneTarget z) r).setLink k) := by
    unfold handTarget
    rw [viewTarget_zoneTarget]
    refine (handZone_quiet (c := ⟨.calibrate, 12, .fix, some w, 0, none, none, false⟩) ?_ (.inl rfl)
      (.inl (fun e => by cases e))).trans ?_
    · show ((((s.setSweep x).setTarget (zoneTarget z) r)).target (zoneTarget z)).active = _
      rw [State.target_setTarget_same, hact]
    · rfl
  obtain ⟨l0, l1, hput⟩ := putZone_eq z
    ((s.zone z).setImmediate w |> fun y => { y with copy := ⟨.calibrate, .fix, 12, some w, 0, false⟩ })
    (((s.setSweep x).setTarget (zoneTarget z) r).setLink k)
  rw [e3, hput] at e2
  replace e2 := e2.trans (checkPreempted_of_kept (by
    intro y hy
    have : y = z := by
      have : x.current = some y := hy
      rw [hx] at this; exact (Option.some.inj this).symm
    subst this
    show ∃ c ∈ ((((s.setSweep x).setTarget (zoneTarget y) r)).target (zoneTarget y)).above, _
    rw [State.target_setTarget_same]
    subst hr
    exact ⟨_, List.mem_cons_self, rfl⟩))
  rw [e1, e2]
  refine ⟨⟨?_, ?_, ?_, ?_, rfl, rfl, rfl, ?_⟩, rfl⟩
  · rw [hr]; exact State.target_setTarget_same _ _ _
  · exact State.zone_setZone_same _ _ _
  · intro t ht; exact State.target_setTarget_other _ _ _ _ ht
  · intro y hy; exact State.zone_setZone_other _ _ _ _ hy
  · rw [notedAll_eq]
    show k = noticesLink
      (changeNotice (zoneTarget z) (((s.setSweep x).setTarget (zoneTarget z) r).target (zoneTarget z))) s.link
    rw [State.target_setTarget_same, hk]

/-- The pop of the CALIBRATE context, where what it exposes can be handed on quietly. -/
theorem popClaim_exposed {s : State} {z : ZoneId} {v : Nat} {rest : List Context} {r : Target}
    (h : Calibrating s z v rest) (hr : r = { s.target (zoneTarget z) with above := rest })
    (q : ExposedQuietly s (zoneTarget z) r) (hw : r.active.origin = .fault → r.window = true)
    (hn : NoEntries s (zoneTarget z)) (x : Sweep) (hx : x.current = none) (u : State)
    (hu : popClaim finish z (s.setSweep x) = u) :
    HandedOn s u (zoneTarget z) r ∧ u.link = noticesLink (changeNotice (zoneTarget z) r) s.link ∧
      u.sweep = x ∧ u.bays = s.bays ∧ u.responses = s.responses ∧ u.seconds = s.seconds ∧
      (u.zone z).cal = (s.zone z).cal := by
  obtain ⟨_, ha, ht, hb⟩ := h
  have hs : s.active (zoneTarget z) = ⟨.calibrate, 12, .fix, some v, 0, none, none, false⟩ := by
    simp [State.active, Target.active, ht]
  have hfil : (s.target (zoneTarget z)).above.filter (fun c => c.origin != .calibrate) = rest := by
    rw [ht, List.filter_cons_of_neg (by simp), List.filter_eq_self]
    intro a ha; simpa using hb a ha
  have hrem : removeContexts (zoneTarget z) (fun c => c.origin != .calibrate) (s.setSweep x) =
      (s.setSweep x).setTarget (zoneTarget z) r := by
    unfold removeContexts
    dsimp only
    rw [show ((s.setSweep x).target (zoneTarget z)) = s.target (zoneTarget z) from rfl, hfil]
    congr 1
    rw [hr]
    congr 1
    cases hwin : (s.target (zoneTarget z)).window
    · have : topUnlockedFault rest = false := by
        rcases hrest : rest with _ | ⟨c, l⟩
        · rfl
        · have hc : c.origin ≠ .fault := by
            intro e
            have := hw (by rw [hr]; subst hrest; exact e)
            rw [hr] at this; exact absurd (this.symm.trans hwin) (by decide)
          have : (c.origin == .fault) = false := by simpa using hc
          show (c.origin == .fault && !c.locked) = false
          rw [this]; rfl
      rw [this]; rfl
    · rfl
  have e : u = finish (zoneTarget z) (s.active (zoneTarget z)) ((s.setSweep x).setTarget (zoneTarget z) r) := by
    rw [← hu]
    unfold popClaim
    dsimp only
    rw [hrem, offer_of_noEntries (s := (s.setSweep x).setTarget (zoneTarget z) r) hn]
    rfl
  have key := finish_exposed (s := (s.setSweep x).setTarget (zoneTarget z) r) (before := s.active (zoneTarget z)) (r := r)
    (State.target_setTarget_same _ _ _) q (by
      rw [hs]
      refine sameContext_of_origin ?_
      rcases q.2.1 with h | h | ⟨_, _, _, h, _⟩
      · rw [h]; exact fun e => by cases e
      · rw [h]; exact fun e => by cases e
      · rw [h]; exact fun e => by cases e) hx
  rw [← e] at key
  obtain ⟨k1, k2, k3, k4⟩ := key
  obtain ⟨k5, k6, k7, k8⟩ := k4 z rfl
  refine ⟨k1.of_claim ?_ rfl (fun _ _ => ⟨rfl, rfl⟩) rfl, k2, k3, k5, k6, k7, k8⟩
  intro x hxt; exact State.target_setTarget_other _ _ _ _ hxt

theorem proceed_ends {fin : Finisher} {z : ZoneId} {s : State} {cause : SweepCause} (h : EndsWith s z cause) :
    proceed fin z s = endSweep cause s := by
  unfold proceed
  rcases h with ⟨h1, h2, rfl⟩ | ⟨h1, rfl⟩
  · rw [h1]
    have : zonesBetween (z.val + 1) s.sweep.last.val = [] := by
      unfold zonesBetween
      rw [List.filter_eq_nil_iff]
      intro a _
      have : s.sweep.last.val ≤ z.val := h2
      simp; omega
    simp only [this]; rfl
  · rw [h1]

/-- The report of the zone with which a sweep ends, and the SWEEP END behind it. -/
theorem endSweep_reportZone (cause : SweepCause) (z : ZoneId) (result : ZoneResult) (eg df : Option Nat) (s : State) :
    endSweep cause (reportZone z result eg df s) =
      (s.setSweep (sweepOver s.sweep (s.sweep.counts.add result))).setLink
        (noticesLink [.sweepProgress ⟨z, result, none, s.sweep.restartUsed, s.sweep.m0, s.sweep.m1, eg, df⟩,
          .sweepEnd cause s.sweep.first s.sweep.last (s.sweep.counts.add result)] s.link) := by
  unfold endSweep reportZone
  rw [offerNotice_eq, offerNotice_eq]
  rfl

theorem endsWith_reportZone {cause : SweepCause} {z : ZoneId} {result : ZoneResult} {eg df : Option Nat} {s : State}
    (h : EndsWith s z cause) : EndsWith (reportZone z result eg df s) z cause := by
  unfold reportZone
  rw [offerNotice_eq]
  exact h

/-- A zone's report under the sweep state and last zone of another state. -/
theorem EndsWith.of_sweep {cause : SweepCause} {z : ZoneId} {s u : State} (h : EndsWith s z cause)
    (hs : u.sweep.state = s.sweep.state) (hl : u.sweep.last = s.sweep.last) : EndsWith u z cause := by
  unfold EndsWith; rw [hs, hl]; exact h

theorem HandedOn.congr {s u w : State} {t : TargetId} {r : Target} (h : HandedOn s u t r) (ht : w.targets = u.targets)
    (hz : w.zones = u.zones) (hp : w.pendingList = u.pendingList) (hd : w.drives = u.drives) : HandedOn s w t r := by
  have a : ∀ x, w.target x = u.target x := fun x => by show w.targets.get x = _; rw [ht]; rfl
  have b : ∀ x, w.zone x = u.zone x := fun x => by show w.zones.get x = _; rw [hz]; rfl
  have c : ∀ x, w.drive x = u.drive x := fun x => by show w.drives.get x = _; rw [hd]; rfl
  exact ⟨(a _).trans h.target, fun x e => (a x).trans (h.others x e), hp.trans h.entries,
    fun z e => by rw [b]; exact h.copy z e,
    fun z v e => by rw [b]; exact h.immediate z v e, fun z v e => by rw [b]; exact h.fading z v e,
    fun z v e => by rw [b]; exact h.fallback z v e, fun z e => by rw [b]; exact h.automatic z e,
    fun x e => by rw [c]; exact h.stop x e⟩

/-- What has been handed on stands when only the target's fault record is written after it. -/
theorem HandedOn.recorded {s u w : State} {t : TargetId} {r : Target} {f : Option FaultRecord} (h : HandedOn s u t r)
    (ht : w.targets = (u.setTarget t { r with fault := f }).targets) (hz : w.zones = u.zones)
    (hp : w.pendingList = u.pendingList) (hd : w.drives = u.drives) : HandedOn s w t { r with fault := f } := by
  have a : ∀ x, w.target x = (u.setTarget t { r with fault := f }).target x := fun x => by
    show w.targets.get x = _; rw [ht]; rfl
  have b : ∀ x, w.zone x = u.zone x := fun x => by show w.zones.get x = _; rw [hz]; rfl
  have c : ∀ x, w.drive x = u.drive x := fun x => by show w.drives.get x = _; rw [hd]; rfl
  exact ⟨(a _).trans (State.target_setTarget_same _ _ _),
    fun x e => (a x).trans ((State.target_setTarget_other _ _ _ _ e).trans (h.others x e)), hp.trans h.entries,
    fun z e => by rw [b]; exact h.copy z e, fun z v e => by rw [b]; exact h.immediate z v e,
    fun z v e => by rw [b]; exact h.fading z v e, fun z v e => by rw [b]; exact h.fallback z v e,
    fun z e => by rw [b]; exact h.automatic z e, fun x e => by rw [c]; exact h.stop x e⟩

/-- A reselection that finds the source that the zone has changes nothing. -/
theorem reselect_of_same {fin : Finisher} {z : ZoneId} {s : State} (h : selectSource s z = (s.zone z).source) :
    reselect fin z s = s := by
  unfold reselect
  rw [if_pos]
  show (_ || selectSource s z == _) = true
  rw [h]; simp

/-- A zone that may read its VALID ceiling channel selects DIRECT. -/
theorem selectSource_direct {z : ZoneId} {s : State} (h : (s.zone z).cfg.ceilingSensor = true)
    (hv : (s.view (ceilingChannel z)).valid = true) : selectSource s z = .direct := by
  unfold selectSource; simp [h, hv]

/-- The calibration record of a zone on its VALID ceiling channel changes no source. -/
theorem reselect_record {fin : Finisher} {z : ZoneId} {s : State} (c : Option CalRecord)
    (hs : (s.zone z).source = .direct)
    (h : (s.zone z).cfg.ceilingSensor = true) (hv : (s.view (ceilingChannel z)).valid = true) :
    reselect fin z (s.setZone z { s.zone z with cal := c }) = s.setZone z { s.zone z with cal := c } := by
  have e := State.zone_setZone_same s z { s.zone z with cal := c }
  generalize hu : s.setZone z { s.zone z with cal := c } = u at e ⊢
  refine reselect_of_same ((selectSource_direct (s := u) ?_ ?_).trans ?_)
  · rw [e]; exact h
  · rw [← hu]; exact hv
  · rw [e]; exact hs.symm

/-- A zone that ends with a result other than FAILED, and the sweep with it. -/
theorem endZone_ends {s : State} {z : ZoneId} {v m0 : Nat} {rest : List Context} {r : Target} {cause : SweepCause}
    (hc : s.sweep.current = some z) (hm : s.sweep.m0 = some m0) (hcal : Calibrating s z 1000 rest)
    (hr : r = { s.target (zoneTarget z) with above := rest }) (q : ExposedQuietly s (zoneTarget z) r)
    (hw : r.active.origin = .fault → r.window = true) (hn : NoEntries s (zoneTarget z)) (hend : EndsWith s z cause)
    (result : ZoneResult) (eg df : Option Nat) (cal : Option CalRecord) (hres : result ≠ .failed) :
    ∃ u, endZone finish z result eg df ((s.setSweep { s.sweep with m1 := some v, s1 := s.sweep.latestSky }).setZone z
        { s.zone z with cal := cal }) = u ∧
      ZoneAndSweepEnded s u z r (s.sweep.counts.add result) ∧ (u.zone z).cal = cal ∧
      u.link = (notedAll (changeNotice (zoneTarget z) r ++
        [.sweepProgress ⟨z, result, none, s.sweep.restartUsed, some m0, some v, eg, df⟩,
          .sweepEnd cause s.sweep.first s.sweep.last (s.sweep.counts.add result)]) s).link := by
  refine ⟨_, rfl, ?_⟩
  generalize hs1 : (s.setSweep { s.sweep with m1 := some v, s1 := s.sweep.latestSky }).setZone z
    { s.zone z with cal := cal } = s1
  have hz1 : s1.zone z = { s.zone z with cal := cal } := by rw [← hs1]; exact State.zone_setZone_same _ _ _
  have ht1 : ∀ t, s1.target t = s.target t := by rw [← hs1]; intro t; rfl
  have hcal1 : Calibrating s1 z 1000 rest := by
    refine ⟨?_, ?_, ?_, hcal.beneath⟩
    · rw [← hs1]; exact hc
    · rw [ht1]; exact hcal.active
    · rw [ht1]; exact hcal.top
  have q1 : ExposedQuietly s1 (zoneTarget z) r := by
    refine ⟨q.1, ?_, ?_, ?_⟩
    · rcases q.2.1 with h | h | ⟨z', w, e, h, h'⟩
      · exact .inl h
      · exact .inr (.inl h)
      · obtain rfl := zoneTarget_inj e
        exact .inr (.inr ⟨z, w, rfl, h, by rw [hz1]; exact h'⟩)
    · intro z' e'; obtain rfl := zoneTarget_inj e'
      rw [hz1]; exact q.2.2.1 z rfl
    · intro b e'; exact absurd e' (zoneTarget_ne_shadeTarget z b)
  obtain ⟨u0, hu0⟩ : ∃ u0, popClaim finish z (s1.setSweep { s1.sweep with current := none }) = u0 := ⟨_, rfl⟩
  obtain ⟨k1, k2, k3, k4, k5, k6, k7⟩ :=
    popClaim_exposed hcal1 (by rw [ht1]; exact hr) q1 hw (by rw [← hs1]; exact hn) _ rfl u0 hu0
  have hsw : s1.sweep = { s.sweep with m1 := some v, s1 := s.sweep.latestSky } := by rw [← hs1]; rfl
  rw [hsw] at k3
  have e3 : endZone finish z result eg df s1 =
      endSweep cause (reportZone z result eg df (unfreezeBay (bayOf z) u0)) := by
    unfold endZone
    dsimp only
    rw [hu0, if_neg hres]
    exact proceed_ends (endsWith_reportZone (hend.of_sweep (by show u0.sweep.state = _; rw [k3])
      (by show u0.sweep.last = _; rw [k3])))
  rw [e3, endSweep_reportZone]
  have hb0 : ∀ b, u0.bay b = s.bay b := by
    intro b; show u0.bays.get b = _; rw [k4, ← hs1]; rfl
  have hsw0 : (unfreezeBay (bayOf z) u0).sweep =
    { s.sweep with m1 := some v, s1 := s.sweep.latestSky, current := none } := k3
  rw [hsw0]
  have hu1 : HandedOn s u0 (zoneTarget z) r :=
    k1.of_claim (s := s) (fun x _ => ht1 x) (by rw [← hs1]; rfl) (fun z' e' => by
      obtain rfl := zoneTarget_inj e'; rw [hz1]; exact ⟨rfl, rfl⟩) (by rw [← hs1]; rfl)
  refine ⟨⟨hu1.congr rfl rfl rfl rfl, rfl, ?_⟩, k7.trans (by rw [hz1]), ?_⟩
  · refine (State.bay_setBay_same u0 _ _).trans ?_
    rw [hb0]
  · rw [notedAll_eq]
    show noticesLink _ u0.link = noticesLink _ s.link
    rw [k2, noticesLink_append, hm, ← hs1]
    rfl

/-- The Fault Notice of a gain out of range that is only recorded, with the record of `r` now `f` (R102, R115). -/
def implausibleNotice (z : ZoneId) (m0 v : Nat) (r : Target) (f : FaultRecord) (stamp : BitVec 32) : FaultNotice :=
  { target := some (zoneTarget z), cls := .calibrationImplausible, source := .channel (ceilingChannel z),
    completion := .notApplicable, detail1 := m0, detail2 := v, outcome := .recorded, created := r.fault.isNone,
    locked := f.lockMark, superseded := f.superseded, firstClass := f.firstClass, stamp := stamp }

/-- A zone that ends FAILED, and the sweep with it, where CALIBRATION_IMPLAUSIBLE is only recorded. -/
theorem endZone_fails {s : State} {z : ZoneId} {v m0 : Nat} {rest : List Context} {r : Target} {cause : SweepCause}
    (hc : s.sweep.current = some z) (hm : s.sweep.m0 = some m0) (hcal : Calibrating s z 1000 rest)
    (hr : r = { s.target (zoneTarget z) with above := rest }) (q : ExposedQuietly s (zoneTarget z) r)
    (hw : r.active.origin = .fault → r.window = true) (hn : NoEntries s (zoneTarget z)) (hend : EndsWith s z cause)
    (hwin : r.window = false) (hresp : s.response .calibrationImplausible = ⟨.report, false⟩) :
    ∃ u f n, endZone finish z .failed none none (s.setSweep { s.sweep with m1 := some v, s1 := s.sweep.latestSky }) = u ∧
      ZoneAndSweepEnded s u z { r with fault := some f } (s.sweep.counts.add .failed) ∧ (u.zone z).cal = (s.zone z).cal ∧
      u.link = (notedAll (changeNotice (zoneTarget z) r ++ [.fault n,
        .sweepProgress ⟨z, .failed, none, s.sweep.restartUsed, some m0, some v, none, none⟩,
          .sweepEnd cause s.sweep.first s.sweep.last (s.sweep.counts.add .failed)]) s).link ∧
      (∃ u0, u0.target (zoneTarget z) = r ∧ u0.seconds = s.seconds ∧
        f = recordRaise u0 (zoneTarget z) (implausibleRaise z m0 v) ∧
        n = implausibleNotice z m0 v r f s.seconds) := by
  generalize hs1 : s.setSweep { s.sweep with m1 := some v, s1 := s.sweep.latestSky } = s1
  have hcal1 : Calibrating s1 z 1000 rest := by
    subst hs1; exact ⟨hc, hcal.active, hcal.top, hcal.beneath⟩
  have q1 : ExposedQuietly s1 (zoneTarget z) r := by subst hs1; exact q
  obtain ⟨u0, hu0⟩ : ∃ u0, popClaim finish z (s1.setSweep { s1.sweep with current := none }) = u0 := ⟨_, rfl⟩
  obtain ⟨k1, k2, k3, k4, k5, k6, k7⟩ :=
    popClaim_exposed hcal1 (by subst hs1; exact hr) q1 hw (by subst hs1; exact hn) _ rfl u0 hu0
  have hsw : s1.sweep = { s.sweep with m1 := some v, s1 := s.sweep.latestSky } := by subst hs1; rfl
  have hl1 : s1.link = s.link := by subst hs1; rfl
  have hsec : s1.seconds = s.seconds := by subst hs1; rfl
  have hh1 : HandedOn s u0 (zoneTarget z) r := by
    subst hs1
    exact k1.of_claim (fun x _ => rfl) rfl (fun _ _ => ⟨rfl, rfl⟩) rfl
  have hz1 : s1.zone z = s.zone z := by subst hs1; rfl
  have hb1 : ∀ b, s1.bay b = s.bay b := by subst hs1; exact fun _ => rfl
  have hr1 : s1.responses = s.responses := by subst hs1; rfl
  rw [hsw] at k3
  generalize hf : recordRaise (unfreezeBay (bayOf z) u0) (zoneTarget z) (implausibleRaise z m0 v) = f
  have hout : raiseOutcome (unfreezeBay (bayOf z) u0) (zoneTarget z) .calibrationImplausible = .recorded := by
    unfold raiseOutcome
    rw [show (unfreezeBay (bayOf z) u0).target (zoneTarget z) = r from hh1.target]
    have : (unfreezeBay (bayOf z) u0).response .calibrationImplausible = ⟨.report, false⟩ := by
      show u0.responses.get _ = _
      rw [k5, hr1]; exact hresp
    dsimp only
    rw [this, hwin]
    split
    · rfl
    · split <;> rfl
  have hraise : raiseFault finish (zoneTarget z) (implausibleRaise z m0 v) (unfreezeBay (bayOf z) u0) =
      ((unfreezeBay (bayOf z) u0).setTarget (zoneTarget z) { r with fault := some f }).setLink
        (noticeLink (.fault (implausibleNotice z m0 v r f s.seconds)) u0.link) := by
    have hcls : (implausibleRaise z m0 v).cls = .calibrationImplausible := rfl
    unfold raiseFault
    dsimp only
    rw [hcls, hout]
    dsimp only
    unfold noteRaise
    dsimp only
    rw [hcls, hout, hf]
    unfold routeFault
    have : ((unfreezeBay (bayOf z) u0).setTarget (zoneTarget z) { r with fault := some f }).response
        .calibrationImplausible = ⟨.report, false⟩ := by
      show u0.responses.get _ = _
      rw [k5, hr1]; exact hresp
    rw [show (unfreezeBay (bayOf z) u0).target (zoneTarget z) = r from hh1.target]
    simp only [reduceCtorEq, if_false]
    rw [this]
    rw [if_neg (by decide), offerNotice_eq]
    rw [show (unfreezeBay (bayOf z) u0).seconds = s.seconds from k6.trans hsec]
    rfl
  generalize hn' : implausibleNotice z m0 v r f s.seconds = n at hraise ⊢
  have e3 : endZone finish z .failed none none s1 =
      endSweep cause (reportZone z .failed none none
        (((unfreezeBay (bayOf z) u0).setTarget (zoneTarget z) { r with fault := some f }).setLink
        (noticeLink (.fault n) u0.link))) := by
    rw [← hraise]
    unfold endZone
    dsimp only
    rw [hu0, if_pos rfl, hsw]
    show proceed finish z (reportZone z .failed none none
      (raiseFault finish (zoneTarget z) (implausibleRaise z (s.sweep.m0.getD 0) v) (unfreezeBay (bayOf z) u0))) = _
    rw [hm]
    refine proceed_ends (endsWith_reportZone ?_)
    show EndsWith (raiseFault finish (zoneTarget z) (implausibleRaise z m0 v) (unfreezeBay (bayOf z) u0)) z cause
    rw [hraise]
    exact hend.of_sweep (by show u0.sweep.state = _; rw [k3]) (by show u0.sweep.last = _; rw [k3])
  rw [endSweep_reportZone] at e3
  have hsw0 : (((unfreezeBay (bayOf z) u0).setTarget (zoneTarget z) { r with fault := some f }).setLink
        (noticeLink (.fault n) u0.link)).sweep =
      { s.sweep with m1 := some v, s1 := s.sweep.latestSky, current := none } := k3
  rw [hsw0] at e3
  refine ⟨_, f, n, e3, ⟨?_, rfl, ?_⟩, ?_, ?_, unfreezeBay (bayOf z) u0, hh1.target, k6.trans hsec, hf.symm, hn'.symm⟩
  · exact hh1.recorded rfl rfl rfl rfl
  · refine (State.bay_setBay_same u0 _ _).trans ?_
    rw [show u0.bay (bayOf z) = s.bay (bayOf z) from by show u0.bays.get _ = _; rw [k4]; exact hb1 _]
  · exact k7.trans (by rw [hz1])
  · rw [notedAll_eq]
    show noticesLink _ (noticeLink _ u0.link) = noticesLink _ s.link
    rw [k2, noticesLink_append, hm, hl1]
    rfl

/-- The zone being calibrated has lost its CALIBRATE context and the sweep ends with it: the zone is ABANDONED. -/
theorem checkPreempted_ends {fin : Finisher} {s : State} {z : ZoneId} {cause : SweepCause} (hc : s.sweep.current = some z)
    (hk : hasCalibrate s z = false) (h : EndsWith s z cause) :
    checkPreempted fin s = ((unfreezeBay (bayOf z) s).setSweep (sweepOver s.sweep (s.sweep.counts.add .abandoned))).setLink
      (noticesLink [.sweepProgress ⟨z, .abandoned, none, s.sweep.restartUsed, s.sweep.m0, s.sweep.m1, none, none⟩,
        .sweepEnd cause s.sweep.first s.sweep.last (s.sweep.counts.add .abandoned)] s.link) := by
  unfold checkPreempted
  rw [hc]
  simp only [hk, Bool.false_eq_true, if_false]
  rw [proceed_ends (cause := cause) (endsWith_reportZone (s := unfreezeBay (bayOf z) s) h), endSweep_reportZone]
  rfl

end Sys2Proof.Machine
end

