-- ==== Sys2Proof/Tests/Slice0.lean ====
section
/-! SUPPORT. Tests: ill-formed terms that the check refuses, frames written out from the manual's layouts, one small test of most
commands, and for every statement with hypotheses a state and operands that meet them together. -/

namespace Sys2Proof.Tests

set_option Elab.async false

open Sys2Proof Sys2Proof.Machine

/-! ### Form -/

/-- The head of the test frames. -/
def head : FrameHead := ⟨false, 0x21⟩

theorem test_refuses_sensor_row_with_channel_all : WellFormed (.configureSensor head 0xFF ⟨1, 1024, 2, 500⟩) = false := by decide
theorem test_accepts_sensor_row : WellFormed (.configureSensor head 63 ⟨1, 1024, 2, 500⟩) = true := by decide
theorem test_refuses_query_sensor_with_index_all : WellFormed (.querySensor head 0x00FF) = false := by decide
theorem test_refuses_query_luminaire_with_address_all : WellFormed (.queryLuminaire head 0 0xFF) = false := by decide
theorem test_refuses_unknown_kind_with_command_code : WellFormed (.unknownKind head 0x13 []) = false := by decide
theorem test_refuses_unknown_kind_with_long_payload :
    WellFormed (.unknownKind head 0x14 (List.replicate 49 0)) = false := by decide
theorem test_accepts_unknown_kind : WellFormed (.unknownKind head 0x14 (List.replicate 48 0)) = true := by decide
theorem test_refuses_short_frame : WellFormed (.frameReceived [0x07] 0) = false := by decide
theorem test_refuses_long_frame : WellFormed (.frameReceived (List.replicate 51 0) 0) = false := by decide

/-! ### Frames -/

theorem test_crc_of_digits : crc16 [0x31, 0x32, 0x33, 0x34, 0x35, 0x36, 0x37, 0x38, 0x39] = 0x29B1 := by
  decide +kernel
theorem test_decodes_enable : decodeFrame ⟨false, 0x07, 0x21, [0x30]⟩ = .ok (.enable 48) := by decide
theorem test_decodes_request :
    decodeFrame ⟨true, 0x09, 0x21, [0x2F, 0x09, 0x01, 0x01, 0xF4, 0x00, 0x64, 0x0E, 0x10, 0x05, 0x12, 0x34]⟩ =
      .ok (.request ⟨47, 9, 1, 500, 100, 3600, 5, 0x1234⟩) := by decide
theorem test_decodes_configure_luminaire :
    decodeFrame ⟨false, 0x04, 0x21, [0x01, 0x5F, 0xFF, 0x03, 0xE8]⟩ = .ok (.configureLuminaire ⟨1, 95, 0xFF, 1000⟩) := by decide
theorem test_decodes_query_fault :
    decodeFrame ⟨false, 0x12, 0x21, [0x06, 0x08, 0x3F]⟩ = .ok (.queryFault 8 63) := by decide
theorem test_decodes_query_sensor_all : decodeFrame ⟨false, 0x12, 0x21, [0x04, 0x00, 0xFF]⟩ = .ok .querySensorAll := by decide
theorem test_decodes_stop : decodeFrame ⟨false, 0x0E, 0x21, [0x03]⟩ = .ok .stopSweepAfterZone := by decide
theorem test_refuses_stop_code : decodeFrame ⟨false, 0x0E, 0x21, [0x04]⟩ = .error .badValue := by decide
theorem test_refuses_reset_payload : decodeFrame ⟨false, 0x13, 0x21, [0x00]⟩ = .error .badLength := by decide
theorem test_kind_byte_of_urgent_frame : kindByte true 0x0E = 0x8E := by decide

/-! ### States -/

/-- The part after a command, from a command that answers a next state. -/
def after (i : Instr) (s : State) : State :=
  match exec i s with
  | .next t => t
  | _ => s

/-- A target of the part in a target state. -/
def withTarget (t : TargetId) (x : TargetState) (s : State) : State := s.setTarget t { s.target t with state := x }

/-- Zone 0 in service with a host context of a level on its stack. -/
def zoneHeld (level : Nat) : State :=
  State.reset.setTarget 0 { State.reset.target 0 with
    state := .active, above := [⟨.host, level, .fix, some 500, 0, some 1000, some 7, false⟩] }

/-- Bay 0 fitted with a shade in service, its drive in a state at a position with a desired stop. -/
def shade (x : DriveState) (position desired : Option Nat) : State :=
  ((withTarget 48 .active State.reset).setBay 0 { (State.reset.bay 0) with
      cfg := { (State.reset.bay 0).cfg with shadePresent := true } }).setDrive 0
    { (State.reset.drive 0) with state := x, position := position, desired := desired }

/-- A drive in motion with its step timer running and its first step made. -/
def moving (x : DriveState) (position : Option Nat) (stop : Nat) : State :=
  (shade x position (some stop)).setDrive 0
    { (shade x position (some stop)).drive 0 with stepTimer := some 40, firstStep := true, grant := true }

/-- Line L0 with luminaire 3 of zone 0. -/
def lamp (x : Luminaire) (list : List Address) (t : Option Transaction) : State :=
  State.reset.setLine .l0 { State.reset.lineL0 with
    lums := State.reset.lineL0.lums.set 3 { x with configured := true, zone := some 0 }, list := list, transaction := t }

/-- Channel 16 in a state, polled. -/
def polled (x : ChannelState) (history : List Nat) (filtered : Option Nat) : State :=
  (State.reset.setChannel 16 { State.reset.channel 16 with
      used := true, state := x, history := history, filtered := filtered }).setScanner
    { State.reset.scanner with poll := some ⟨16, some 3, false⟩ }

/-- A sweep of zone 0 in a phase. -/
def sweeping (x : SweepPhase) (valid : Bool) : State :=
  State.reset.setSweep { State.reset.sweep with
    state := .running, current := some 0, phase := x, timer := some 2000, ceilingValid := valid, m0 := some 100 }

/-- The payload of a CONFIGURE ZONE. -/
def zoneFields (lo hi : Half) : ZonePayload := ⟨47, 2000, 200, lo, hi, 1, 1000, 1000, 50, 1, 3600⟩

/-- The payload of a CONFIGURE BAY. -/
def bayFields (on off : Half) : BayPayload := ⟨15, 0, on, off, 600, 600, 1, 239, 239, 239, 200, 1, 30⟩

/-- The payload of a FIX request for target 0. -/
def fixRequest (level : Byte) : RequestPayload := ⟨0, level, 1, 1000, 0, 0, 0, 9⟩

/-- The payload of a FIX request for the shade of bay 0. -/
def stopRequest (level : Byte) : RequestPayload := ⟨48, level, 1, 239, 0, 0, 0, 9⟩

/-! ### Commands -/

/-- The records a command adds to an emptied Report Queue. -/
def recordsOf (i : Instr) (s : State) : List Record :=
  (after i (s.setLink { s.link with reports := [] })).link.reports

/-- A REPLY without a result while no link flag is set. -/
def plainReply (status : Status) : Record := .reply 0x21 status ⟨false, false, false, false⟩ []

theorem test_configure_zone_makes_dormant :
    ((after (.configureZone head (zoneFields 0 1000)) State.reset).target 47).state = .dormant := by decide
theorem test_configure_bay_makes_dormant :
    ((after (.configureBay head (bayFields 65535 65534)) State.reset).target 63).state = .dormant := by decide
theorem test_configure_sensor_starts :
    ((after (.configureSensor head 16 ⟨1, 1024, 2, 0⟩) State.reset).channel 16).state = .starting := by decide
theorem test_configure_sensor_all_sets_interval :
    (after (.configureSensorAll head ⟨1, 0, 9, 2000⟩) State.reset).scanner.interval = 2000 := by decide
theorem test_configure_luminaire_writes_trim :
    ((after (.configureLuminaire head ⟨0, 95, 0xFF, 100⟩) State.reset).lum .l0 95).trim = 100 := by decide
theorem test_set_response_refuses_class_13 : recordsOf (.setResponse head ⟨13, 1, 0⟩) State.reset = [plainReply .badValue] := by
  decide
theorem test_set_link_writes : (after (.setLink head 63 60) State.reset).link.threshold = 63 := by decide
theorem test_enable_unconfigured_is_refused : recordsOf (.enable head 0) State.reset = [plainReply .notConfigured] := by decide
theorem test_enable_without_source_raises :
    ((after (.enable head 0) (withTarget 0 .dormant State.reset)).target 0).fault.isSome = true := by
  decide +kernel
theorem test_disable_discards_request :
    recordsOf (.disable head 0) (zoneHeld 9) = [plainReply .ok, .requestState 7 0 9 .discarded] := by decide
theorem test_request_is_accepted : recordsOf (.request head (fixRequest 9)) (withTarget 0 .active State.reset) =
    [plainReply .accepted] := by
  decide +kernel
theorem test_request_sets_output :
    ((after (.request head (fixRequest 9)) (withTarget 0 .active State.reset)).zone 0).output = 1000 := by
  decide +kernel
theorem test_release_frees_identity : identityPresent (after (.release head 7) (zoneHeld 9)) 7 = false := by decide +kernel
theorem test_release_without_source_falls_back : ((after (.release head 7) (zoneHeld 9)).active 0).origin = .fault := by
  decide +kernel
theorem test_clear_fault_without_record : recordsOf (.clearFault head 63) State.reset = [plainReply .noFault] := by decide
theorem test_watch_sets_mark : ((after (.watch head 63 1) State.reset).target 63).watch = true := by decide
theorem test_calibrate_skips_inactive_zone : (after (.calibrate head 0 0 2) State.reset).sweep.counts.skipped = 1 := by decide
theorem test_stop_shades_halts : ((after (.stopShadesNow head) (moving .moving (some 9) 20)).drive 0).pendingStop = .halt := by
  decide
theorem test_stop_sweep_when_idle : recordsOf (.stopSweepNow head) State.reset =
    [.reply 0x21 .ok ⟨false, false, false, false⟩ [1]] := by decide
theorem test_stop_after_zone : (after (.stopSweepAfterZone head) (sweeping .darkSettle true)).sweep.state = .stopping := by decide
theorem test_shade_home_asks_for_power :
    ((after (.shadeHome head 0) (shade .idle (some 5) (some 5))).drive 0).state = .energizing := by decide
theorem test_bus_hold_holds : (after (.busHold head 1) State.reset).lineL1.state = .held := by decide
theorem test_bus_release_in_run : recordsOf (.busRelease head 0) State.reset = [plainReply .ok] := by decide
theorem test_query_zone_refuses_48 : recordsOf (.queryZone head 48) State.reset = [plainReply .badValue] := by decide
theorem test_query_pending_of_empty_list : recordsOf (.queryPending head 31) State.reset =
    [.reply 0x21 .ok ⟨false, false, false, false⟩ [0, 0]] := by decide
theorem test_reset_part_starts : recordsOf (.resetPart head) (zoneHeld 9) = [.started .command (some 0x21)] := by decide
theorem test_unknown_kind : recordsOf (.unknownKind head 0x14 []) State.reset = [plainReply .unknownKind] := by decide
theorem test_reset_pin_empties_queue : (after .rstNAsserted State.reset).link.reports = [] := by decide
theorem test_deassertion_starts : (after .rstNDeasserted (after .rstNAsserted (zoneHeld 9))).link.reports =
    [.started .pin none] := by decide
theorem test_frame_received_runs : recordsOf (.frameReceived [0x07, 0x21, 0x00] (crc16 [0x03, 0x07, 0x21, 0x00])) State.reset =
    [plainReply .notConfigured] := by
  decide +kernel
theorem test_bad_frame_sets_flag :
    (after (.frameReceived [0x07, 0x21, 0x00] 0) State.reset).link.flags.frameError = (true : Bool) := by
  decide +kernel
theorem test_hrdy_starts_a_frame : (after .hrdyAsserted State.reset).link.sending = some ⟨false, .started .pin none⟩ := by decide
theorem test_start_byte : (after (.byteTaken 0xA5 true) State.reset).link.receiver = .length := by decide
theorem test_seconds_wrap : (after .secondsCounterTick { State.reset with seconds := 4294967295 }).seconds = 0 := by decide
theorem test_answer_completes_history :
    ((after (.sensorAnswer 16 30 .good) (polled .starting [10, 20] none)).channel 16).filtered = some 20 := by decide
theorem test_step_lowers : ((after (.stepEvent 0 false none) (moving .moving (some 9) 20)).drive 0).position = some 10 := by decide
theorem test_step_with_pending_halt_holds :
    ((after (.stepEvent 0 false none) (after (.stopShadesNow head) (moving .moving (some 9) 20))).drive 0).state = .holding := by
  decide
theorem test_update_starts : (after (.updateTransactionStart .l0)
    (lamp { Luminaire.reset with dirty := true } [3] none)).lineL0.transaction = some ⟨3, .set, 0, .update, 1⟩ := by decide
theorem test_unanswered_set_is_sent_again : (after (.luminaireAnswerTimeout .l0)
    (lamp Luminaire.reset [] (some ⟨3, .set, 0, .update, 1⟩))).lineL0.transaction = some ⟨3, .set, 0, .update, 2⟩ := by decide
theorem test_late_answer_has_no_effect : after (.luminaireAnswer .l0 0 .late)
    (lamp Luminaire.reset [] (some ⟨3, .set, 0, .update, 1⟩)) = lamp Luminaire.reset [] (some ⟨3, .set, 0, .update, 1⟩) := by
  decide +kernel
theorem test_hold_expiry_ends : (recordsOf (.holdExpiry 7) (zoneHeld 9)).head? = some (.requestState 7 0 9 .ended) := by
  decide +kernel
theorem test_phase_expiry_reads :
    (after .phaseTimerExpiry (sweeping .darkSettle true)).sweep.phase = .darkRead := by decide

/-! ### Witnesses: for each statement with hypotheses, states and operands that meet them, one for each clause -/

/-- A part whose link is as after reset takes a command at once. -/
theorem taking_of {s : State} (h : s.rstAsserted = false) (k : s.link = State.reset.link) : Taking s := by
  refine ⟨h, ?_, ?_, ?_⟩
  · show s.link.reports.length < Config.reportCap
    rw [k]; decide
  · rw [k]; rfl
  · rw [k]; rfl

theorem reset_taking : Taking State.reset := taking_of rfl rfl

/-- An identity is free where no stack and no entry holds one. -/
theorem free_of {s : State} {i : Nat} (h : ∀ t, ∀ c ∈ (s.target t).above, c.identity = none) (k : s.pendingList = []) :
    ¬ IdentityTaken s i := by
  rintro (⟨t, c, hc, hi⟩ | ⟨e, he, _⟩)
  · rw [h t c hc] at hi; cases hi
  · rw [k] at he; cases he

theorem noEntries_of {s : State} {t : TargetId} (k : s.pendingList = []) : NoEntries s t := by
  intro e he; rw [k] at he; cases he

theorem witness_StepOnEmptyQueuePassesOneMillisecond :
    (State.reset.pending = [] ∧ Operating State.reset) ∧
    ({ State.reset with rstAsserted := true }.pending = [] ∧ { State.reset with rstAsserted := true }.rstAsserted = true) :=
  ⟨⟨rfl, rfl⟩, rfl, rfl⟩

theorem witness_HeldWhileResetIsAsserted : ∃ c : Instr, { State.reset with rstAsserted := true }.rstAsserted = true ∧
    c ≠ .rstNAsserted ∧ c ≠ .rstNDeasserted ∧ c ≠ .hrdyAsserted ∧ c ≠ .hrdyDeasserted ∧
    (∀ b home mark, c ≠ .stepEvent b home mark) ∧ (∀ b home mark, c ≠ .energiseTimerExpiry b home mark) :=
  ⟨.frameSent, rfl, by decide, by decide, by decide, by decide, fun _ _ _ h => (by cases h), fun _ _ _ h => (by cases h)⟩

theorem witness_ResetRowsLeaveResetValues : { State.reset with rstAsserted := true }.rstAsserted = true ∧ Taking State.reset :=
  ⟨rfl, reset_taking⟩

theorem witness_LinkStaysSound : State.reset.link.Sound ∧ ∃ t, step State.reset = .next t :=
  ⟨⟨by decide, by decide, by decide, by decide, trivial, by decide⟩, _, rfl⟩

theorem reset_line_sound : Line.reset.Sound :=
  ⟨⟨by decide, by decide +kernel⟩, fun t h => by cases h⟩

theorem witness_LinesStaySound : LinesSound State.reset ∧ ∃ t, step State.reset = .next t :=
  ⟨⟨reset_line_sound, reset_line_sound⟩, _, rfl⟩

theorem reset_channel_sound : Channel.reset.Sound :=
  ⟨by decide, by decide, by decide, by decide, (fun v h => by cases h), by decide, by decide, by decide, by decide, by decide⟩

theorem reset_channel : ∀ c, State.reset.channel c = Channel.reset := by decide +kernel

theorem witness_ScannerStaysSound : ScannerSound State.reset ∧ ∃ t, step State.reset = .next t :=
  ⟨⟨by decide, fun c => by rw [reset_channel c]; exact reset_channel_sound⟩, _, rfl⟩

theorem witness_DecodeGivesBackEveryCommand :
    (Command.configureSensor 0xFE ⟨1, 1, 0, 0⟩).wellFormed = true ∧ (Command.querySensor 0x01FF).wellFormed = true ∧
      (Command.queryLuminaire 1 0xFE).wellFormed = true := by decide

/-- A frame with a kind code and a payload of zeros. -/
def blank (code : BitVec 7) (n : Nat) : Frame := ⟨false, code, 0x21, List.replicate n 0⟩

theorem witness_DecoderRefusesKindThenLength :
    ¬ (1 ≤ (blank 0 0).code.toNat ∧ (blank 0 0).code.toNat ≤ 0x13) ∧
    ¬ (1 ≤ (blank 0x14 0).code.toNat ∧ (blank 0x14 0).code.toNat ≤ 0x13) ∧
    (1 ≤ (blank 1 19).code.toNat ∧ (blank 1 19).code.toNat ≤ 0x13 ∧
      (blank 1 19).payload.length ≠ payloadLength (blank 1 19).code.toNat) ∧
    (1 ≤ (blank 0x13 1).code.toNat ∧ (blank 0x13 1).code.toNat ≤ 0x13 ∧
      (blank 0x13 1).payload.length ≠ payloadLength (blank 0x13 1).code.toNat) ∧ Taking State.reset :=
  ⟨by decide, by decide, by decide, by decide, reset_taking⟩

/-- The part with another Link Port. -/
def withLink (f : LinkPort → LinkPort) : State := State.reset.setLink (f State.reset.link)

theorem witness_HostCommandWaitsWhenNotTaken :
    (Operating (withLink fun k => { k with reports := List.replicate 64 (.started .pin none) }) ∧
      ¬ GateOpen (withLink fun k => { k with reports := List.replicate 64 (.started .pin none) })) ∧
    (Operating (withLink fun k => { k with mailbox := some (blank 1 0) }) ∧
      ¬ NothingInbound (withLink fun k => { k with mailbox := some (blank 1 0) })) := by
  refine ⟨⟨rfl, ?_⟩, rfl, ?_⟩
  · show ¬ ((List.replicate 64 (Record.started .pin none)).length < Config.reportCap); decide
  · rintro ⟨h, _⟩; cases h

theorem witness_FrameReceivedIsRouted : Operating State.reset ∧
    ((blank 0x14 48).payload.length ≤ 48 ∧ (blank 0x13 0).payload.length ≤ 48) ∧
    (2 ≤ [0x07, 0x21].length ∧ [0x07, 0x21].length ≤ 50 ∧ (0 : Half) ≠ crc16 (BitVec.ofNat 8 2 :: [0x07, 0x21])) ∧
    (([0x07] : List Byte).length < 2 ∧ 50 < (List.replicate 51 (0 : Byte)).length) :=
  ⟨rfl, by decide, by decide +kernel, by decide⟩

theorem witness_ReceiverFollowsItsTable : Operating (withLink fun k => { k with receiver := .length, gapTimer := some 20 }) ∧
    (withLink fun k => { k with receiver := .length }).link.receiver = .length ∧
    (2 ≤ (2 : Byte).toNat ∧ (50 : Byte).toNat ≤ 50 ∧ (1 : Byte).toNat < 2 ∧ 50 < (51 : Byte).toNat) ∧
    ((withLink fun k => { k with receiver := .body 2 [7] }).link.receiver = .body 2 [7] ∧ 2 ≤ [7].length + 1) ∧
    ((withLink fun k => { k with receiver := .body 2 [] }).link.receiver = .body 2 [] ∧ ([] : List Byte).length + 1 < 2) ∧
    (withLink fun k => { k with receiver := .check [7, 8] (some 1) }).link.receiver = .check [7, 8] (some 1) ∧
    (withLink fun k => { k with receiver := .check [7, 8] none }).link.receiver = .check [7, 8] none ∧
    State.reset.link.receiver = .hunt ∧
    (withLink fun k => { k with gapTimer := some 1 }).link.gapTimer.isSome = true ∧
    [7, 0x21] = (blank 7 0).body ∧ ((0x00 : Byte) ++ (0x00 : Byte) : Half) ≠ crc16 (BitVec.ofNat 8 2 :: [7, 0x21]) :=
  ⟨rfl, rfl, by decide, ⟨rfl, by decide⟩, ⟨rfl, by decide⟩, rfl, rfl, rfl, rfl, by decide, by decide +kernel⟩

theorem witness_ReadyLineAndSecondsCounter : Operating State.reset ∧ State.reset.seconds.toNat < 4294967295 ∧
    { State.reset with seconds := 4294967295 }.seconds.toNat = 4294967295 := ⟨rfl, by decide, by decide⟩

/-- The part with HRDY asserted and an alarm waiting. -/
def ready (alarm : Option Record) : State := { withLink fun k => { k with alarm := alarm } with hrdy := true }

theorem witness_TransmitterTakesAlarmsFirst : Operating (ready none) ∧
    ((ready (some (.started .pin none))).hrdy = true ∧ (ready (some (.started .pin none))).link.sending = none ∧
      (ready (some (.started .pin none))).link.alarm = some (.started .pin none)) ∧
    ((ready none).link.alarm = none ∧ (ready none).link.reports = [.started .pin none]) ∧ State.reset.hrdy = false :=
  ⟨rfl, ⟨rfl, rfl, rfl⟩, ⟨rfl, rfl⟩, rfl⟩

theorem reset_lines_rest : LinesAtRest State.reset := ⟨.inr ⟨rfl, rfl⟩, .inr ⟨rfl, rfl⟩⟩

theorem witness_EventEndActsOnlyWhereItMust : Quiet State.reset ∧
    (LinesAtRest (ready none) ∧ NothingInbound (ready none) ∧ (ready none).hrdy = true ∧
      (ready none).link.sending = none) ∧
    (LinesAtRest (withLink fun k => { k with mailbox := some (blank 1 0) }) ∧
      TransmitterBlocked (withLink fun k => { k with mailbox := some (blank 1 0) }) ∧
      GateOpen (withLink fun k => { k with mailbox := some (blank 1 0) })) ∧
    (GateOpen (withLink fun k => { k with inbound := [blank 1 0] }) ∧
      (withLink fun k => { k with inbound := [blank 1 0] }).link.inbound = [blank 1 0]) :=
  ⟨⟨.inl rfl, reset_lines_rest, .inl ⟨rfl, rfl⟩⟩, ⟨reset_lines_rest, ⟨rfl, rfl⟩, rfl, rfl⟩,
    ⟨reset_lines_rest, .inl rfl, by show (1 : Nat) < 64; decide⟩, by show (1 : Nat) < 64; decide, rfl⟩

theorem witness_ConfigureZoneWritesTheRecord : Taking State.reset ∧ (zoneFields 0 1000).InRange ∧
    ¬ (zoneFields 0 1001).InRange ∧ (zoneFields 7 6).maxLevel.toNat < (zoneFields 7 6).minLevel.toNat ∧
    (zoneFields 7 7).minLevel.toNat ≤ (zoneFields 7 7).maxLevel.toNat ∧ (47 : ZoneId).val = (zoneFields 7 7).zone.toNat ∧
    (State.reset.target (zoneTarget 47)).state ≠ .active ∧
    ((withTarget 47 .active State.reset).target (zoneTarget 47)).state = .active := by
  refine ⟨reset_taking, ?_⟩
  unfold ZonePayload.InRange IsFlag
  decide +kernel

theorem witness_ConfigureBayWritesTheRecord : Taking State.reset ∧ (bayFields 65535 65534).InRange ∧
    ¬ (bayFields 0 0).InRange ∧ (bayFields 7 7).glareOn.toNat ≤ (bayFields 7 7).glareOff.toNat ∧
    (bayFields 7 6).glareOff.toNat < (bayFields 7 6).glareOn.toNat ∧ (15 : BayId).val = (bayFields 7 6).bay.toNat ∧
    (State.reset.target (shadeTarget 15)).state ≠ .active ∧
    (State.reset.bay 15).cfg.skySensor = (bayFields 7 6).config.skySensor ∧
    (bayFields 7 6).config.shadePresent ≠ (State.reset.bay 15).cfg.shadePresent ∧ (State.reset.drive 15).state = .off := by
  refine ⟨reset_taking, ?_⟩
  unfold BayPayload.InRange IsFlag
  decide +kernel

theorem witness_ConfigureSensorWritesItsFields : Taking State.reset ∧ IsFlag 1 ∧
    (100 ≤ (100 : Half).toNat ∧ (2000 : Half).toNat ≤ 2000 ∧ (2000 : Half).toNat % 100 = 0 ∧ (150 : Half).toNat % 100 ≠ 0) ∧
    ((63 : Byte).toNat ≤ 63 ∧ 1 ≤ (1 : Half).toNat ∧ (4096 : Half).toNat ≤ 4096 ∧ (4 : Byte).toNat ≤ 4) ∧
    ¬ ((64 : Byte).toNat ≤ 63) ∧ (State.reset.channel 63).state = .unused ∧
    ((polled .valid [1, 2, 3] (some 2)).channel 16).state = .valid := by
  refine ⟨reset_taking, ?_⟩
  unfold IsFlag
  decide +kernel

theorem witness_ConfigureLuminaireWritesTheRecord : Taking State.reset ∧
    ((1 : Byte).toNat = lineCode .l1 ∧ (95 : Byte).toNat = (95 : Address).val ∧ (100 : Nat) ≤ (1000 : Half).toNat ∧
      (1000 : Half).toNat ≤ 1000) ∧
    (0xFF : Byte) = 0xFF ∧ (∃ z : ZoneId, (47 : Byte).toNat = z.val ∧ some z = some (47 : ZoneId)) ∧ ¬ (99 : Half).toNat ≥ 100 ∧
    ((withTarget 47 .active State.reset).target (zoneTarget 47)).state = .active ∧
    ((lamp Luminaire.reset [] none).lum .l0 3).zone = some 0 :=
  ⟨reset_taking, by decide, rfl, ⟨47, by decide, rfl⟩, by decide, by decide +kernel, by decide +kernel⟩

theorem witness_EnableAnswersByTargetState : Taking State.reset ∧ 63 < (64 : Byte).toNat ∧
    (63 : TargetId).val = (63 : Byte).toNat ∧ (State.reset.target 63).state = .unconfigured ∧
    ((withTarget 63 .active State.reset).target 63).state = .active ∧
    ((withTarget 63 .dormant State.reset).target 63).state = .dormant ∧ (63 : TargetId) = shadeTarget 15 ∧
    (State.reset.bay 15).cfg.shadePresent = false ∧ ((withTarget 0 .dormant State.reset).target 0).state = .dormant := by
  exact ⟨reset_taking, by decide +kernel⟩

/-- A DORMANT zone whose ceiling channel is VALID. -/
def zoneReady : State :=
  ((withTarget 0 .dormant State.reset).setZone 0 { State.reset.zone 0 with
    cfg := { (State.reset.zone 0).cfg with ceilingSensor := true } }).setView 16 ⟨true, some 400⟩

theorem witness_EnableBringsAZoneIntoService : Taking zoneReady ∧ (0 : Byte).toNat = (0 : ZoneId).val ∧
    (zoneReady.target (zoneTarget 0)).state = .dormant ∧ (zoneReady.target (zoneTarget 0)).above = [] ∧
    (zoneReady.target (zoneTarget 0)).baseValue = none ∧ (zoneReady.zone 0).cfg.ceilingSensor = true ∧
    (zoneReady.view (ceilingChannel 0)).valid = true ∧ (zoneReady.zone 0).measureLost = false ∧
    (zoneReady.target (zoneTarget 0)).watch = false := ⟨taking_of rfl rfl, by decide +kernel⟩

/-- A DORMANT shade target with its shade fitted. -/
def shadeReady : State := withTarget 48 .dormant (shade .off none none)

theorem witness_EnableBringsAShadeIntoService : Taking shadeReady ∧ (48 : Byte).toNat = 48 + (0 : BayId).val ∧
    (shadeReady.target (shadeTarget 0)).state = .dormant ∧ (shadeReady.bay 0).cfg.shadePresent = true ∧
    (shadeReady.drive 0).state = .off ∧ (shadeReady.drive 0).position ≠ some (shadeReady.bay 0).cfg.openStop ∧
    grantsHeld shadeReady < 4 := ⟨taking_of rfl rfl, by decide +kernel⟩

/-- Zone 0 being calibrated in a phase, with its CALIBRATE context of a value over a stack; a sweep of zone 0 alone. -/
def calibrating (x : SweepPhase) (v : Nat) (rest : List Context) : State :=
  (((sweeping x true).setTarget 0 { State.reset.target 0 with
      state := .active, above := ⟨.calibrate, 12, .fix, some v, 0, none, none, false⟩ :: rest }).setZone 0
    { State.reset.zone 0 with
      cfg := { (State.reset.zone 0).cfg with ceilingSensor := true }, source := .direct }).setView 16 ⟨true, some 400⟩

theorem calibrating_zone (x : SweepPhase) (v : Nat) : Calibrating (calibrating x v []) 0 v [] :=
  ⟨rfl, rfl, rfl, fun c h => by cases h⟩

theorem calibrating_ends (x : SweepPhase) (v : Nat) : EndsWith (calibrating x v []) 0 .complete := .inl ⟨rfl, by show (0 : ZoneId) ≤ 0; decide, rfl⟩

/-- The same sweep STOPPING. -/
def stopping (x : SweepPhase) (v : Nat) : State :=
  (calibrating x v []).setSweep { (calibrating x v []).sweep with state := .stopping }

theorem stopping_ends (x : SweepPhase) (v : Nat) : EndsWith (stopping x v) 0 .stopped := .inr ⟨rfl, rfl⟩

/-- Zone 0 in service, watched and LOCKED, with a context on its stack and an entry that waits. -/
def zoneBusy : State :=
  (State.reset.setTarget 0 { State.reset.target 0 with
    state := .active, watch := true, above := [⟨.host, 0, .fix, some 500, 0, none, some 7, false⟩]
    fault := some ⟨.sensorSilent, .sensorSilent, .channel 16, 0, none, .notApplicable, 0, 0, [], true, 0, true⟩
    }).setPendingList [⟨0, 9, .fix, 5, 0, none, 8, 5, some 5000, 0⟩]

theorem witness_DisableTakesAZoneOutOfService : Taking (zoneHeld 9) ∧ (0 : ZoneId).val = (0 : Byte).toNat ∧
    ((zoneHeld 9).target (zoneTarget 0)).state = .active ∧ NoZoneCalibrating (zoneHeld 9) ∧ 63 < (64 : Byte).toNat ∧
    (State.reset.target 63).state = .unconfigured ∧ ((withTarget 63 .dormant State.reset).target 63).state = .dormant ∧
    ((zoneHeld 9).target 0).locked = false ∧
    (Taking zoneBusy ∧ (zoneBusy.target 0).state = .active ∧ (zoneBusy.target 0).locked = true ∧
      (zoneBusy.target 0).fault.isSome = true ∧ (zoneBusy.target 0).above ≠ [] ∧ (zoneBusy.target 0).watch = true ∧
      (zoneBusy.pendingList.filter fun e => e.target = zoneTarget 0) ≠ []) ∧
    (Taking (calibrating .darkSettle 0 []) ∧ (calibrating .darkSettle 0 []).sweep.current = some 0 ∧
      EndsWith (calibrating .darkSettle 0 []) 0 .complete ∧ EndsWith (stopping .darkSettle 0) 0 .stopped ∧
      ((calibrating .darkSettle 0 []).target (zoneTarget 0)).state = .active ∧ (1 : ZoneId) ≠ 0 ∧
      ∃ c ∈ ((calibrating .darkSettle 0 []).target (zoneTarget 0)).above, c.origin = .calibrate) :=
  ⟨taking_of rfl rfl, by decide, by decide +kernel, rfl, by decide, by decide +kernel, by decide +kernel,
    by decide +kernel, ⟨taking_of rfl rfl, by decide +kernel⟩, taking_of rfl rfl, rfl, calibrating_ends _ _,
    stopping_ends _ _, rfl, by decide, _, List.mem_cons_self, rfl⟩

theorem witness_DisableTakesAShadeOutOfService : Taking (moving .moving (some 9) 20) ∧
    (48 : Byte).toNat = 48 + (0 : BayId).val ∧ ((moving .moving (some 9) 20).target (shadeTarget 0)).state = .active ∧
    NoZoneCalibrating (moving .moving (some 9) 20) ∧ ((moving .moving (some 9) 20).drive 0).state = .moving ∧
    ((shade .holding (some 9) (some 9)).drive 0).state = .holding ∧ (0 : BayId) ∉ (shade .holding none none).grantQueue ∧
    ((shade .waitPower none none).drive 0).state = .waitPower ∧ ((shade .failed none none).drive 0).state = .failed := by
  refine ⟨taking_of rfl rfl, by decide, by decide +kernel, rfl, ?_⟩
  decide +kernel

theorem witness_TableCommandsWriteTheirValues : Taking State.reset ∧
    ((12 : Byte).toNat = FaultClass.code .calibrationImplausible ∧ (3 : Byte).toNat = 3 ∧ ¬ (13 : Byte).toNat ≤ 12) ∧ IsFlag 0 ∧
    (16 ≤ (16 : Byte).toNat ∧ (63 : Byte).toNat ≤ 63 ∧ 1 ≤ (1 : Byte).toNat ∧ (60 : Byte).toNat ≤ 60 ∧
      ¬ 16 ≤ (15 : Byte).toNat) ∧
    (63 : Byte).toNat = (63 : TargetId).val ∧ 63 < (64 : Byte).toNat :=
  ⟨reset_taking, by decide, .inl rfl, by decide, by decide, by decide⟩

/-- Target 0 in service with its record locked. -/
def zoneLocked : State :=
  State.reset.setTarget 0 { State.reset.target 0 with
    state := .active
    fault := some ⟨.sensorSilent, .sensorSilent, .channel 16, 0, none, .notApplicable, 0, 0, [], true, 0, true⟩ }

theorem free_in_reset (t : TargetId) (r : Target) (i : Nat) (h : r.above = []) :
    ¬ IdentityTaken (State.reset.setTarget t r) i := by
  rintro (⟨t', c, hc, _⟩ | ⟨e, he, _⟩)
  · have : ((State.reset.setTarget t r).target t').above = [] := by
      by_cases e : t' = t
      · subst e; simpa [State.target, State.setTarget, Vector.get_eq_getElem] using h
      · have hr : ∀ x, (State.reset.target x).above = [] := by decide +kernel
        have hn : t.val ≠ t'.val := fun q => e (Fin.ext q.symm)
        have := hr t'
        simpa [State.target, State.setTarget, Vector.get_eq_getElem, Vector.getElem_set_ne _ _ hn] using this
    rw [this] at hc; cases hc
  · cases he

theorem witness_RequestIsRefusedByItsFirstFailedCheck : Taking zoneLocked ∧ 63 < (64 : Byte).toNat ∧
    (0 : TargetId).val = (fixRequest 9).target.toNat ∧ (State.reset.target 0).state ≠ .active ∧
    (zoneLocked.target 0).state = .active ∧ ¬ RequestLevel (2 : Byte).toNat ∧ RequestLevel (14 : Byte).toNat ∧
    (fixRequest 9).FieldsAllowed ∧ ¬ ({ fixRequest 9 with kind := 0 } : RequestPayload).FieldsAllowed ∧
    (fixRequest 9).identity ≠ 0 ∧ ¬ IdentityTaken zoneLocked (fixRequest 9).identity.toNat ∧
    (zoneLocked.target 0).locked = true ∧ (fixRequest 9).level ≠ 0 ∧
    (∃ t, ∃ c ∈ ((zoneHeld 9).target t).above, c.identity = some 7) := by
  refine ⟨taking_of rfl rfl, by decide, by decide, by decide +kernel, by decide +kernel, ?_, ?_, ?_, ?_, by decide,
    free_in_reset _ _ _ rfl, by decide +kernel, by decide, ⟨0, ⟨.host, 9, .fix, some 500, 0, some 1000, some 7, false⟩,
    by decide +kernel, rfl⟩⟩
  · unfold RequestLevel; decide
  · unfold RequestLevel; decide
  · unfold RequestPayload.FieldsAllowed; decide
  · unfold RequestPayload.FieldsAllowed; decide

/-- Target 0 in service with an empty stack. -/
def zoneIdle : State := State.reset.setTarget 0 { State.reset.target 0 with state := .active }

theorem passes_zone (level : Byte) (h : RequestLevel level.toNat) :
    RequestPasses (fixRequest level) (zoneTarget 0) zoneIdle := by
  refine ⟨rfl, by decide +kernel, h, ?_, by show (9 : Half) ≠ 0; decide, free_in_reset _ _ _ rfl, .inl (by decide +kernel)⟩
  unfold RequestPayload.FieldsAllowed
  left; exact ⟨by show (0 : Byte).toNat ≤ 47; decide, rfl, by show (1000 : Half).toNat ≤ 1000; decide, by show (0 : Half).toNat ≤ 1000; decide⟩

/-- Target 0 under a context of identity 8. -/
def zoneUnder (level : Nat) : State :=
  State.reset.setTarget 0 { State.reset.target 0 with
    state := .active, above := [⟨.host, level, .fix, some 500, 0, none, some 8, false⟩] }

theorem free_under (level : Nat) : ¬ IdentityTaken (zoneUnder level) 9 := by
  rintro (⟨t', c, hc, hi⟩ | ⟨e, he, _⟩)
  · by_cases e : t' = 0
    · subst e
      simp [zoneUnder, State.target, State.setTarget, Vector.get_eq_getElem] at hc
      subst hc; simp at hi
    · have hr : ∀ x, (State.reset.target x).above = [] := by decide +kernel
      have hn : (0 : TargetId).val ≠ t'.val := fun q => e (Fin.ext q.symm)
      have := hr t'
      simp only [zoneUnder, State.target, State.setTarget, Vector.get_eq_getElem, Vector.getElem_set_ne _ _ hn] at hc this
      rw [this] at hc; cases hc
  · cases he

theorem passes_under (level : Nat) (b : Byte) (h : RequestLevel b.toNat) :
    RequestPasses (fixRequest b) (zoneTarget 0) (zoneUnder level) := by
  have ht : (zoneUnder level).target (zoneTarget 0) = { State.reset.target 0 with
      state := .active, above := [⟨.host, level, .fix, some 500, 0, none, some 8, false⟩] } := by
    simp [zoneUnder, State.target, State.setTarget, Vector.get_eq_getElem, zoneTarget]
  refine ⟨rfl, by rw [ht], h, ?_, by show (9 : Half) ≠ 0; decide, free_under level, .inl (by rw [ht]; rfl)⟩
  unfold RequestPayload.FieldsAllowed
  left; exact ⟨by show (0 : Byte).toNat ≤ 47; decide, rfl, by show (1000 : Half).toNat ≤ 1000; decide, by show (0 : Half).toNat ≤ 1000; decide⟩

theorem witness_RequestPends : Taking (zoneUnder 5) ∧ RequestPasses (fixRequest 6) (zoneTarget 0) (zoneUnder 5) ∧
    (fixRequest 6).kind.toNat = Kind.fix.code ∧ ((zoneUnder 5).active (zoneTarget 0)).level < (fixRequest 6).level.toNat ∧
    (zoneUnder 5).pendingList.length < 32 ∧
    32 ≤ ((zoneUnder 5).setPendingList (List.replicate 32 ⟨1, 3, .fix, 0, 0, none, 5, 0, none, 0⟩)).pendingList.length :=
  ⟨taking_of rfl rfl, passes_under 5 6 (by unfold RequestLevel; decide), by decide, by decide +kernel, by decide, by decide⟩

/-- A zone in service that can be calibrated. -/
def zoneDirect : State := zoneIdle.setZone 0 { zoneIdle.zone 0 with source := .direct }

/-- Zone 0 in service under its unlocked fault context away from the output, with its window open. -/
def zoneFallen : State :=
  zoneDirect.setTarget 0 { zoneIdle.target 0 with
    state := .active, above := [⟨.fault, 2, .fix, some 300, 0, none, none, false⟩], window := true }

theorem passes_of {s : State} {p : RequestPayload} (ht : p.target = 0) (hi : p.identity = 9) (hf : p.FieldsAllowed)
    (hl : RequestLevel p.level.toNat) (ha : (s.target 0).state = .active) (hk : (s.target 0).locked = false)
    (hs : ∀ t, ∀ c ∈ (s.target t).above, c.identity = none) (hp : s.pendingList = []) :
    RequestPasses p (zoneTarget 0) s :=
  ⟨by rw [ht]; rfl, ha, hl, hf, by rw [hi]; decide, free_of hs hp, .inl hk⟩

theorem witness_RequestFixesAZone : Taking zoneIdle ∧ RequestPasses (fixRequest 14) (zoneTarget 0) zoneIdle ∧
    (fixRequest 14).kind.toNat = Kind.fix.code ∧ NoZoneCalibrating zoneIdle ∧
    ((fixRequest 14).level.toNat < (zoneIdle.active (zoneTarget 0)).level ∧
      (zoneIdle.target (zoneTarget 0)).above.length < 4 ∧ (zoneIdle.target (zoneTarget 0)).window = false ∧
      (zoneIdle.active (zoneTarget 0)).origin = .base) ∧
    (RequestPasses (fixRequest 5) (zoneTarget 0) (zoneUnder 5) ∧ NoZoneCalibrating (zoneUnder 5) ∧
      ((zoneUnder 5).active (zoneTarget 0)).level = (fixRequest 5).level.toNat ∧
      ((zoneUnder 6).active (zoneTarget 0)).origin = .host) ∧
    RequestPasses { fixRequest 14 with fade := 100 } (zoneTarget 0) zoneIdle ∧
    RequestPasses { fixRequest 14 with kind := 2 } (zoneTarget 0) zoneDirect ∧ (2 : Byte).toNat = Kind.cap.code ∧
    RequestPasses { fixRequest 14 with kind := 3, value := 2000 } (zoneTarget 0) zoneDirect ∧
    (3 : Byte).toNat = Kind.setpoint.code ∧ Taking zoneDirect ∧ (zoneDirect.zone 0).source ≠ .none ∧
    (RequestPasses (fixRequest 0) (zoneTarget 0) zoneFallen ∧ Taking zoneFallen ∧ NoZoneCalibrating zoneFallen ∧
      (zoneFallen.active (zoneTarget 0)).origin = .fault ∧ NoEntries zoneFallen (zoneTarget 0) ∧
      (fixRequest 0).level = 0 ∧ (zoneFallen.target (zoneTarget 0)).window = true) ∧
    (RequestPasses (fixRequest 11) (zoneTarget 0) (calibrating .darkSettle 0 []) ∧ Taking (calibrating .darkSettle 0 []) ∧
      Calibrating (calibrating .darkSettle 0 []) 0 0 [] ∧ EndsWith (calibrating .darkSettle 0 []) 0 .complete ∧
      NoEntries (calibrating .darkSettle 0 []) (zoneTarget 0) ∧
      (fixRequest 11).level.toNat < ((calibrating .darkSettle 0 []).active (zoneTarget 0)).level) := by
  have f (p : RequestPayload) (h : p = fixRequest 0 ∨ p = fixRequest 11 ∨ p = { fixRequest 14 with fade := 100 } ∨
      p = { fixRequest 14 with kind := 2 } ∨ p = { fixRequest 14 with kind := 3, value := 2000 }) :
      p.FieldsAllowed ∧ RequestLevel p.level.toNat := by
    unfold RequestPayload.FieldsAllowed RequestLevel
    rcases h with rfl | rfl | rfl | rfl | rfl <;> decide
  refine ⟨taking_of rfl rfl, passes_zone 14 (by unfold RequestLevel; decide), by decide, rfl, by decide +kernel,
    ⟨passes_under 5 5 (by unfold RequestLevel; decide), rfl, by decide +kernel⟩,
    passes_of rfl rfl (f _ (by simp)).1 (f _ (by simp)).2 (by decide +kernel) (by decide +kernel) (by decide +kernel) rfl,
    passes_of rfl rfl (f _ (by simp)).1 (f _ (by simp)).2 (by decide +kernel) (by decide +kernel) (by decide +kernel) rfl,
    by decide,
    passes_of rfl rfl (f _ (by simp)).1 (f _ (by simp)).2 (by decide +kernel) (by decide +kernel) (by decide +kernel) rfl,
    by decide, taking_of rfl rfl, by decide +kernel,
    ⟨passes_of rfl rfl (f _ (by simp)).1 (f _ (by simp)).2 (by decide +kernel) (by decide +kernel) (by decide +kernel) rfl,
      taking_of rfl rfl, rfl, by decide +kernel, noEntries_of rfl, rfl, by decide +kernel⟩,
    passes_of rfl rfl (f _ (by simp)).1 (f _ (by simp)).2 (by decide +kernel) (by decide +kernel) (by decide +kernel) rfl,
    taking_of rfl rfl, calibrating_zone _ _, calibrating_ends _ _, noEntries_of rfl, by decide +kernel⟩

theorem witness_RequestMovesAnIdleShade : ∃ s, Taking s ∧ RequestPasses (stopRequest 0) (shadeTarget 0) s ∧
    (s.target (shadeTarget 0)).above = [] ∧ (s.target (shadeTarget 0)).window = false ∧ NoZoneCalibrating s ∧
    (s.drive 0).state = .idle ∧ (s.drive 0).position ≠ some (stopRequest 0).value.toNat ∧
    (s.drive 0).desired ≠ some (stopRequest 0).value.toNat ∧ grantsHeld s < 4 := by
  refine ⟨(withTarget 48 .active State.reset).setDrive 0 { State.reset.drive 0 with state := .idle, position := some 0 },
    taking_of rfl rfl, ⟨by decide, by decide +kernel, by unfold RequestLevel; decide, ?_, by decide, ?_,
      .inl (by decide +kernel)⟩, by decide +kernel, by decide +kernel, rfl, by decide +kernel, by decide +kernel,
    by decide +kernel, by decide +kernel⟩
  · unfold RequestPayload.FieldsAllowed; decide
  · exact free_in_reset 48 _ _ (by decide +kernel)

/-- The part with one entry for target 0 on its Pending List. -/
def waiting : State := State.reset.setPendingList [⟨0, 9, .fix, 5, 0, none, 7, 5, some 5000, 0⟩]

theorem reset_stacks (t : TargetId) : (State.reset.target t).above = [] := by revert t; decide +kernel

/-- Zone 0, or the shade of bay 0, under a context of identity 7 over a stack, where what the context covers can be handed
on quietly. -/
def zoneOver (rest : List Context) : State :=
  zoneDirect.setTarget 0 { zoneIdle.target 0 with
    state := .active, above := ⟨.host, 1, .fix, some 500, 0, some 1000, some 7, false⟩ :: rest }

/-- The fault context of a zone, away from its output. -/
def fallen : Context := ⟨.fault, 2, .fix, some 300, 0, none, none, false⟩

theorem zoneOver_exposes (rest : List Context) (h : rest = [] ∨ rest = [fallen]) (w : Bool) :
    ExposedQuietly (zoneOver rest) (zoneTarget 0) { (zoneOver rest).target (zoneTarget 0) with above := rest, window := w } := by
  refine ⟨rfl, ?_, ?_, ?_⟩
  · rcases h with rfl | rfl
    · exact .inl rfl
    · exact .inr (.inr ⟨0, 300, rfl, rfl, by decide +kernel⟩)
  · intro z hz
    obtain rfl : z = 0 := by
      have := congrArg Fin.val hz
      exact Fin.ext (by simpa [zoneTarget] using this.symm)
    exact .inr (.inl (by show Source.direct ≠ .none; decide))
  · intro b hb
    exact absurd hb (by intro e; have := congrArg Fin.val e; simp [zoneTarget, shadeTarget] at this; omega)

/-- The shade of bay 0 in HOLDING under a context of identity 7. -/
def shadeOver : State :=
  (shade .holding (some 20) (some 20)).setTarget 48 { (shade .holding (some 20) (some 20)).target 48 with
    baseValue := some 0, above := [⟨.host, 9, .fix, some 20, 0, some 1000, some 7, false⟩] }

theorem shadeOver_exposes (w : Bool) :
    ExposedQuietly shadeOver (shadeTarget 0) { shadeOver.target (shadeTarget 0) with above := [], window := w } := by
  refine ⟨rfl, .inl rfl, ?_, ?_⟩
  · intro z hz
    have := congrArg Fin.val hz
    simp [zoneTarget, shadeTarget] at this
    omega
  · intro b hb _
    obtain rfl : b = 0 := by
      have := congrArg Fin.val hb
      exact Fin.ext (by simpa [shadeTarget] using this.symm)
    decide +kernel

theorem witness_ReleaseRemovesTheIdentity : Taking State.reset ∧ ¬ IdentityTaken zoneIdle 7 ∧
    ((∀ t, ∀ c ∈ (waiting.target t).above, c.identity ≠ some 7) ∧ ∃ e ∈ waiting.pendingList, e.identity = 7) ∧
    ((∃ c ∈ ((zoneHeld 9).target 0).above, c.identity = some 7) ∧
      (∀ t', t' ≠ 0 → ∀ c ∈ ((zoneHeld 9).target t').above, c.identity ≠ some 7)) ∧ NoEntries (zoneHeld 9) 0 ∧
    (Taking (zoneOver []) ∧ NoEntries (zoneOver []) 0 ∧ NoZoneCalibrating (zoneOver []) ∧
      ((zoneOver []).active 0).identity = some 7 ∧ ((zoneOver []).active 0).origin = .host ∧
      ExposedQuietly (zoneOver []) (zoneTarget 0)
        { (zoneOver []).target (zoneTarget 0) with above := [], window := false } ∧
      ExposedQuietly (zoneOver [fallen]) (zoneTarget 0)
        { (zoneOver [fallen]).target (zoneTarget 0) with above := [fallen], window := true } ∧
      Taking shadeOver ∧ (shadeOver.active (shadeTarget 0)).identity = some 7 ∧
      ExposedQuietly shadeOver (shadeTarget 0)
        { shadeOver.target (shadeTarget 0) with above := [], window := false }) := by
  refine ⟨reset_taking, free_in_reset _ _ _ rfl, ⟨?_, ⟨0, 9, .fix, 5, 0, none, 7, 5, some 5000, 0⟩, by decide, rfl⟩, ⟨?_, ?_⟩, ?_,
    taking_of rfl rfl, noEntries_of rfl, rfl, by decide +kernel, by decide +kernel, zoneOver_exposes _ (.inl rfl) _,
    zoneOver_exposes _ (.inr rfl) _, taking_of rfl rfl, by decide +kernel, shadeOver_exposes _⟩
  · intro t c hc
    rw [show (waiting.target t).above = [] from reset_stacks t] at hc; cases hc
  · exact ⟨⟨.host, 9, .fix, some 500, 0, some 1000, some 7, false⟩, by decide +kernel, rfl⟩
  · intro t' ht c hc
    have hn : (0 : TargetId).val ≠ t'.val := fun q => ht (Fin.ext q.symm)
    have := reset_stacks t'
    simp only [zoneHeld, State.target, State.setTarget, Vector.get_eq_getElem, Vector.getElem_set_ne _ _ hn] at hc this
    rw [this] at hc; cases hc
  · intro e he; cases he

theorem witness_HoldAndWaitExpiriesEndARequest : Operating waiting ∧
    (waiting.pendingList = [] ++ ⟨0, 9, .fix, 5, 0, none, 7, 5, some 5000, 0⟩ :: [] ∧ (7 : Half).toNat = 7 ∧
      (some 5000 : Timer).isSome = true) ∧
    (((zoneHeld 9).target 0).above = [] ++ ⟨.host, 9, .fix, some 500, 0, some 1000, some 7, false⟩ :: [] ∧
      (some 1000 : Timer).isSome = true) ∧
    (Operating (zoneOver []) ∧ NoEntries (zoneOver []) 0 ∧ NoZoneCalibrating (zoneOver []) ∧
      ((zoneOver [fallen]).target 0).above =
        [] ++ ⟨.host, 1, .fix, some 500, 0, some 1000, some 7, false⟩ :: [fallen] ∧
      ExposedQuietly (zoneOver [fallen]) (zoneTarget 0)
        { (zoneOver [fallen]).target (zoneTarget 0) with above := [fallen], window := true }) ∧
    [fallen] ≠ [] :=
  ⟨rfl, by decide, by decide +kernel, ⟨rfl, noEntries_of rfl, rfl, by decide +kernel, zoneOver_exposes _ (.inr rfl) _⟩,
    by decide⟩

theorem witness_RaiseIsRecordedAndJudged : (State.reset.target 0).fault = none ∧
    FaultClass.selfClearing .sensorSilent = true ∧ FaultClass.selfClearing .shadePowerTimeout = false ∧
    (zoneLocked.target 0).fault.isSome = true ∧ (State.reset.target 0).state ≠ .active ∧
    (zoneLocked.target 0).locked = true ∧ (zoneIdle.target 0).state = .active ∧ (zoneIdle.target 0).locked = false ∧
    (zoneIdle.target 0).window = false ∧ (zoneIdle.response .shadeSwitchError).action = .lock ∧
    (zoneIdle.response .sensorSilent).action = .report ∧ (zoneIdle.response .measureLost).action = .fallback ∧
    (zoneIdle.target 0).above = [] := by decide +kernel

/-- Target 0 with a fault record of the open set given. -/
def zoneOpen (set : List Condition) : State :=
  State.reset.setTarget 0 { State.reset.target 0 with
    fault := some ⟨.sensorSilent, .sensorSilent, .channel 16, 0, none, .notApplicable, 0, 0, set, false, 0, false⟩ }

/-- The condition that target 0's ceiling channel is silent. -/
def silent : Condition := ⟨.sensorSilent, .channel 16⟩

theorem witness_RaiseMeetsEveryOpenSet (set : List Condition) : ((zoneOpen set).target 0).fault.map (·.openSet) = some set ∧
    silent ∈ [silent] ∧ silent ∉ ([] : List Condition) ∧
    silent ∉ List.replicate 255 (⟨.sensorRange, .channel 16⟩ : Condition) ∧
    255 ≤ (List.replicate 255 (⟨.sensorRange, .channel 16⟩ : Condition)).length :=
  ⟨rfl, by decide, by decide, (fun h => absurd (List.eq_of_mem_replicate h) (by decide)), le_of_eq List.length_replicate.symm⟩

theorem witness_ClearFaultDeletesTheRecord : Taking zoneLocked ∧ 63 < (64 : Byte).toNat ∧
    (0 : TargetId).val = (0 : Byte).toNat ∧ (State.reset.target 0).fault = none ∧ (zoneLocked.target 0).fault.isSome = true ∧
    (zoneLocked.target 0).above = [] ∧ NoZoneCalibrating zoneLocked :=
  ⟨taking_of rfl rfl, by decide, by decide, by decide +kernel, by decide +kernel, by decide +kernel, rfl⟩

/-- Zone 1 in service with no source, and zone 2 under DIRECT with a context of level 9. -/
def zonesSkipped : State :=
  ((zoneDirect.setTarget 1 { zoneDirect.target 1 with state := .active }).setTarget 2 { zoneDirect.target 2 with
      state := .active, above := [⟨.host, 9, .fix, some 500, 0, none, some 7, false⟩] }).setZone 2
    { zoneDirect.zone 2 with source := .direct }

theorem witness_CalibrateIsCheckedAndStarted : Taking zoneDirect ∧
    ((0 : Byte).toNat ≤ 47 ∧ (47 : Byte).toNat ≤ 47 ∧ 2 ≤ (2 : Byte).toNat ∧ (60 : Byte).toNat ≤ 60 ∧
      ¬ (48 : Byte).toNat ≤ 47 ∧ ¬ 2 ≤ (1 : Byte).toNat) ∧
    zoneDirect.sweep.state = .idle ∧ (sweeping .darkSettle true).sweep.state ≠ .idle ∧
    (State.reset.target (zoneTarget 0)).state ≠ .active ∧
    (zoneDirect.target (zoneTarget 0)).state = .active ∧ (zoneDirect.target (zoneTarget 0)).locked = false ∧
    (zoneDirect.zone 0).source = .direct ∧ 12 < (zoneDirect.active (zoneTarget 0)).level ∧
    (Taking zonesSkipped ∧ zonesSkipped.sweep.state = .idle ∧
      ([1, 2, 3] : List ZoneId).map (fun x => x.val) = List.range' 1 (3 + 1 - 1) ∧
      ((zonesSkipped.target (zoneTarget 1)).state = .active ∧ (zonesSkipped.zone 1).source ≠ .direct) ∧
      ((zonesSkipped.target (zoneTarget 2)).state = .active ∧ (zonesSkipped.target (zoneTarget 2)).locked = false ∧
        (zonesSkipped.zone 2).source = .direct ∧ (zonesSkipped.active (zoneTarget 2)).level < 12) ∧
      (zonesSkipped.target (zoneTarget 3)).state ≠ .active ∧ (zoneLocked.target (zoneTarget 0)).locked = true) :=
  ⟨taking_of rfl rfl, by decide, rfl, by decide +kernel, by decide +kernel, by decide +kernel, by decide +kernel,
    by decide +kernel, by decide +kernel, taking_of rfl rfl, rfl, by decide, by decide +kernel⟩

theorem witness_StopEndsTheSweep : Taking State.reset ∧ State.reset.sweep.state = .idle ∧
    (sweeping .darkSettle true).sweep.state = .running ∧
    ((sweeping .darkSettle true).setSweep { (sweeping .darkSettle true).sweep with state := .stopping }).sweep.state =
      .stopping := ⟨reset_taking, rfl, rfl, rfl⟩

theorem witness_PhaseTimerBeginsTheReading : Operating (sweeping .darkSettle true) ∧
    (sweeping .darkSettle true).sweep.current = some 0 ∧ (sweeping .darkSettle true).sweep.timer.isSome = true ∧
    (sweeping .darkSettle true).sweep.ceilingValid = true ∧ (sweeping .lightSettle true).sweep.phase = .lightSettle ∧
    (sweeping .darkSettle false).sweep.ceilingValid = false ∧ (sweeping .darkSettle false).sweep.restartUsed = false ∧
    (∀ c ∈ ((sweeping .darkSettle false).target (zoneTarget 0)).above, c.value ≠ some 1000) := by
  refine ⟨rfl, rfl, rfl, rfl, rfl, rfl, rfl, ?_⟩
  intro c hc
  rw [show ((sweeping .darkSettle false).target (zoneTarget 0)).above = [] from reset_stacks _] at hc; cases hc

theorem calibrating_exposes (x : SweepPhase) :
    ExposedQuietly (calibrating x 1000 []) (zoneTarget 0)
      { (calibrating x 1000 []).target (zoneTarget 0) with above := [] } := by
  refine ⟨rfl, .inl rfl, ?_, ?_⟩
  · intro z hz
    obtain rfl : z = 0 := by
      have := congrArg Fin.val hz
      exact Fin.ext (by simpa [zoneTarget] using this.symm)
    exact .inr (.inl (by show Source.direct ≠ .none; decide))
  · intro b hb
    exact absurd hb (by intro e; have := congrArg Fin.val e; simp [zoneTarget, shadeTarget] at this; omega)

/-- A reading in LIGHT_READ with the sky readings given. -/
def lightRead (s0 sky : Option Nat) (restarted : Bool) : State :=
  (calibrating .lightRead 1000 []).setSweep { (calibrating .lightRead 1000 []).sweep with
    s0 := s0, latestSky := sky, restartUsed := restarted }

theorem witness_ReadingsDecideTheZone : (sweeping .darkRead true).sweep.current = some 0 ∧
    (sweeping .darkRead true).sweep.phase = .darkRead ∧ (sweeping .lightSettle true).sweep.phase = .lightSettle ∧
    Calibrating (calibrating .darkRead 0 []) 0 0 [] ∧ (calibrating .darkRead 0 []).sweep.phase = .darkRead ∧
    Calibrating (calibrating .lightRead 1000 []) 0 1000 [] ∧ (calibrating .lightRead 1000 []).sweep.phase = .lightRead ∧
    (calibrating .lightRead 1000 []).sweep.m0 = some 100 ∧ (calibrating .lightRead 1000 []).sweep.s0 = none ∧
    (100 + 20 ≤ 120 ∧ 10100 ≤ 100 + 10000 ∧ 119 < 100 + 20 ∧ 100 + 10000 < 10101) ∧
    (1000 < 4 * (1251 - 1000) ∧ 4 * (1250 - 1000) ≤ 1000 ∧ 1000 < 4 * (1000 - 749)) ∧
    ((lightRead (some 1000) (some 1251) false).sweep.s0 = some 1000 ∧
      (lightRead (some 1000) (some 1251) true).sweep.latestSky = some 1251 ∧
      (lightRead (some 1000) (some 1251) true).sweep.restartUsed = true ∧ (lightRead (some 0) none true).sweep.s0 = some 0) ∧
    ExposedQuietly (calibrating .lightRead 1000 []) (zoneTarget 0)
      { (calibrating .lightRead 1000 []).target (zoneTarget 0) with above := [] } ∧
    NoEntries (calibrating .lightRead 1000 []) (zoneTarget 0) ∧ EndsWith (calibrating .lightRead 1000 []) 0 .complete ∧
    EndsWith (stopping .lightRead 1000) 0 .stopped ∧
    (((calibrating .lightRead 1000 []).zone 0).source = .direct ∧
      ((calibrating .lightRead 1000 []).zone 0).cfg.ceilingSensor = true ∧
      ((calibrating .lightRead 1000 []).view (ceilingChannel 0)).valid = true ∧
      ((calibrating .lightRead 1000 []).target (zoneTarget 0)).window = false ∧
      (calibrating .lightRead 1000 []).response .calibrationImplausible = ⟨.report, false⟩) :=
  ⟨rfl, rfl, rfl, calibrating_zone _ _, rfl, calibrating_zone _ _, rfl, rfl, rfl, by decide, by decide,
    ⟨rfl, rfl, rfl, rfl⟩, calibrating_exposes _, noEntries_of rfl, calibrating_ends _ _, stopping_ends _ _,
    by decide +kernel⟩

theorem witness_StopShadesHaltsEveryFittedBay : Taking (moving .moving (some 9) 20) ∧
    ((moving .moving (some 9) 20).bay 0).cfg.shadePresent = true ∧ ((moving .moving (some 9) 20).bay 1).cfg.shadePresent = false ∧
    ((moving .moving (some 9) 20).drive 0).state = .moving ∧ ((shade .waitPower none none).drive 0).state = .waitPower ∧
    ((shade .energizing none none).drive 0).state = .energizing := ⟨taking_of rfl rfl, by decide +kernel⟩

/-- A drive in HOLDING at its desired stop whose HOME input was last shown active. -/
def homed (stop : Nat) : State := setInputs 0 true none (shade .holding (some stop) (some stop))

theorem witness_ShadeHomeActsByDriveState : Taking (moving .moving (some 9) 20) ∧ 15 < (16 : Byte).toNat ∧
    (0 : BayId).val = (0 : Byte).toNat ∧ (State.reset.target (shadeTarget 0)).state ≠ .active ∧
    ((moving .moving (some 9) 20).target (shadeTarget 0)).state = .active ∧
    ((moving .moving (some 9) 20).target (shadeTarget 0)).locked = false ∧
    ((moving .homing none 20).drive 0).state = .homing ∧ ((shade .idle (some 5) (some 5)).drive 0).desired.isSome = true ∧
    (grantsHeld (shade .idle (some 5) (some 5)) < 4 ∧ ((shade .holding (some 5) (some 5)).drive 0).state = .holding ∧
      (shade .holding none none).homeIn.get 0 = false) ∧
    (Taking (homed 5) ∧ (homed 5).homeIn.get 0 = true ∧ ((homed 5).drive 0).state = .holding ∧
      ((homed 5).target (shadeTarget 0)).state = .active ∧ ((homed 5).target (shadeTarget 0)).locked = false ∧
      ((homed 5).drive 0).desired ≠ some 0 ∧ ((homed 0).drive 0).desired = some 0 ∧
      ((homed 0).bay 0).cfg.verify = false ∧ ((homed 0).drive 0).following = false) := by
  have home : (homed 5).homeIn.get 0 = true ∧ ((homed 5).drive 0).state = .holding ∧
      ((homed 5).target (shadeTarget 0)).state = .active ∧ ((homed 5).target (shadeTarget 0)).locked = false ∧
      ((homed 5).drive 0).desired ≠ some 0 ∧ ((homed 0).drive 0).desired = some 0 ∧
      ((homed 0).bay 0).cfg.verify = false ∧ ((homed 0).drive 0).following = false := by decide +kernel
  refine ⟨taking_of rfl rfl, ?_, ?_, ?_, ?_, ?_, ?_, ?_, ?_, taking_of rfl rfl, home⟩ <;> decide +kernel

/-- A movement whose first step is still to come, in the bay of a zone in service. -/
def starting : State :=
  withTarget 0 .active ((moving .moving (some 18) 20).setDrive 0 { (moving .moving (some 18) 20).drive 0 with firstStep := false })

theorem witness_StepEventMovesOneStop : Operating (moving .moving (some 18) 20) ∧
    (((moving .moving (some 18) 20).drive 0).stepTimer.isSome = true ∧
    ((moving .moving (some 18) 20).drive 0).pendingStop = .none ∧ ((moving .moving (some 18) 20).drive 0).firstStep = true ∧
    ((moving .moving (some 18) 20).drive 0).desired = some 20 ∧ ((moving .moving (some 18) 20).drive 0).state = .moving ∧
    ((moving .moving (some 18) 20).drive 0).position = some 18 ∧ (18 + 1 < 20 ∧ 20 + 1 < 22) ∧
    ((moving .homing none 20).drive 0).state = .homing ∧ ((moving .homing none 20).drive 0).position = none ∧
    ((moving .homing none 20).drive 0).homingRestart = false ∧ ((moving .homing none 20).drive 0).homingCount + 1 < 255) ∧
    (Operating starting ∧ (starting.drive 0).stepTimer.isSome = true ∧ (starting.drive 0).firstStep = false ∧
      NoZoneCalibrating starting ∧ (starting.drive 0).position = some 18 ∧
      (∃ z, bayOf z = 0 ∧ (starting.target (zoneTarget z)).state = .active)) := by
  have zone : (starting.target (zoneTarget 0)).state = .active := by decide +kernel
  refine ⟨rfl, ?_, rfl, ?_, ?_, rfl, ?_, 0, rfl, zone⟩ <;> decide +kernel

/-- A drive in MOVING at its desired stop with verify on. -/
def arrived (d : Nat) : State :=
  (moving .moving (some d) d).setBay 0 { (moving .moving (some d) d).bay 0 with
    cfg := { ((moving .moving (some d) d).bay 0).cfg with verify := true } }

theorem witness_VerificationChoosesTheNearestMark : Operating (arrived 232) ∧ (232 ≤ 239 ∧ 239 ≤ 239) ∧
    ((arrived 232).drive 0).state = .moving ∧ ((arrived 232).drive 0).stepTimer.isSome = true ∧
    ((arrived 232).drive 0).pendingStop = .none ∧ ((arrived 232).drive 0).position = some 232 ∧
    ((arrived 232).drive 0).desired = some 232 ∧ ((arrived 232).bay 0).cfg.verify = true ∧
    (1 ≤ 232 % 16 ∧ 232 % 16 ≤ 8 ∧ 232 ≤ 232 ∧ 224 = 232 - 232 % 16) ∧ (9 ≤ 217 % 16 ∧ 217 < 224 ∧ 224 = 217 + (16 - 217 % 16)) ∧
    233 ≤ 239 ∧ ((arrived 239).drive 0).following = false ∧ 224 = 16 * (14 : Fin 15).val := by
  refine ⟨rfl, ?_⟩; decide +kernel

/-- A drive in ENERGIZING. -/
def energising (position : Option Nat) (halted : Bool) : State :=
  ((shade .energizing position (some 20)).setDrive 0
    { (shade .energizing position (some 20)).drive 0 with energiseTimer := some 400, grant := true }).setBay 0
      { (shade .energizing position (some 20)).bay 0 with halted := halted }

theorem witness_EnergiseExpiryJudgesTheDesiredStop : Operating (energising none true) ∧
    ((energising none true).drive 0).energiseTimer.isSome = true ∧ ((energising none true).bay 0).halted = true ∧
    ((energising (some 20) false).drive 0).position = ((energising (some 20) false).drive 0).desired ∧
    ((energising none false).bay 0).halted = false ∧ ((energising none false).drive 0).position = none ∧
    ((energising (some 19) false).drive 0).position = some 19 ∧ ((energising (some 19) false).drive 0).desired ≠ some 19 := by
  refine ⟨rfl, ?_⟩; decide +kernel

/-- A drive in HOLDING with its hold timer running. -/
def holding (queue : List BayId) : State :=
  ((shade .holding (some 20) (some 20)).setDrive 0
    { (shade .holding (some 20) (some 20)).drive 0 with holdTimer := some 9000, grant := true }).setGrantQueue queue

theorem witness_HoldingEndsWithTheGrantReleased : Operating (holding [3]) ∧ ((holding [3]).drive 0).holdTimer.isSome = true ∧
    (0 : BayId) ∉ (holding [3]).grantQueue ∧ ((holding [3]).drive 0).position = ((holding [3]).drive 0).desired ∧
    (holding []).grantQueue = [] ∧ (holding [3]).grantQueue = 3 :: [] := by
  refine ⟨rfl, ?_⟩; decide +kernel

/-- A drive in WAIT_POWER with its wait timer running. -/
def queued : State :=
  ((shade .waitPower none (some 20)).setDrive 0
    { (shade .waitPower none (some 20)).drive 0 with waitTimer := some 30000 }).setGrantQueue [0, 3]

theorem witness_PowerTimeoutLeavesTheQueueAndRaises : Operating queued ∧ (queued.drive 0).waitTimer.isSome = true ∧
    (queued.target (shadeTarget 0)).fault = none ∧ (queued.target (shadeTarget 0)).window = false ∧
    (queued.response .shadePowerTimeout).action = .report ∧ (queued.response .shadePowerTimeout).alarm = false ∧
    queued.link.reports.length < 64 := by refine ⟨rfl, ?_⟩; decide +kernel

/-- Bay 0 in GLARE_PENDING or CLEAR_PENDING with a glare stop. -/
def glaring (g : Glare) (stop : Nat) : State :=
  (shade .idle (some 0) (some 0)).setBay 0 { (shade .idle (some 0) (some 0)).bay 0 with
    cfg := { ((shade .idle (some 0) (some 0)).bay 0).cfg with glareStop := stop }, glare := g, glareTimer := some 1 }

theorem witness_GlareHoldExpiryCompletesThePendingState : Operating (glaring .glarePending 0) ∧
    ((glaring .glarePending 0).bay 0).glareTimer.isSome = true ∧ ((glaring .glarePending 0).bay 0).glare = .glarePending ∧
    ((glaring .clearPending 200).bay 0).glare = .clearPending ∧
    ((glaring .glarePending 200).bay 0).cfg.openStop ≠ ((glaring .glarePending 200).bay 0).cfg.glareStop ∧
    ((glaring .glarePending 200).target (shadeTarget 0)).above = [] ∧
    ((glaring .glarePending 200).target (shadeTarget 0)).state = .active ∧
    ((glaring .glarePending 200).target (shadeTarget 0)).baseValue = some 0 ∧
    ((glaring .glarePending 200).drive 0).state = .idle ∧ ((glaring .glarePending 200).drive 0).desired = some 0 ∧
    ((glaring .glarePending 200).drive 0).position = some 0 ∧ grantsHeld (glaring .glarePending 200) < 4 ∧
    NoZoneCalibrating (glaring .glarePending 200) := by
  have : NoZoneCalibrating (glaring .glarePending 200) := rfl
  refine ⟨rfl, ?_, ?_, ?_, ?_, ?_, ?_, ?_, ?_, ?_, ?_, ?_, this⟩ <;> decide +kernel

/-- Zone 0 ramping. -/
def ramping (output target : Nat) : State :=
  State.reset.setZone 0 { State.reset.zone 0 with output := output, rampTarget := target, rampTimer := some 100 }

theorem witness_RampTickMovesOneStep : Operating (ramping 0 1) ∧ ((ramping 0 1).zone 0).rampTimer.isSome = true ∧
    ((ramping 0 1).zone 0).rates = .perSecond 1 1 ∧ (0 < 1 ∧ (0 : Nat) ≠ 1) ∧ ((ramping 1000 0).zone 0).rampTarget = 0 ∧
    ((ramping 0 1).zone 0).copy.origin ≠ .fault := by
  refine ⟨rfl, ?_⟩; decide +kernel

/-- Zone 0 in service under DIRECT with a measured value. -/
def measured (m : Nat) (copy : ContextCopy) : State :=
  (zoneIdle.setZone 0 { zoneIdle.zone 0 with source := .direct, copy := copy }).setView 16 ⟨true, some m⟩

theorem witness_ZoneUpdateCorrectsTheRampTarget : measure (measured 0 ⟨.base, .auto, 15, none, 0, false⟩) 0 = some 0 ∧
    ((measured 0 ⟨.base, .auto, 15, none, 0, false⟩).target (zoneTarget 0)).state = .active ∧
    ((measured 0 ⟨.base, .auto, 15, none, 0, false⟩).zone 0).settling = false ∧
    ((measured 0 ⟨.host, .setpoint, 9, some 2000, 0, false⟩).zone 0).copy.kind = .setpoint ∧
    ((measured 0 ⟨.host, .cap, 9, some 1000, 0, false⟩).zone 0).copy.kind = .cap ∧
    ((measured 0 ⟨.host, .fix, 9, some 1000, 0, false⟩).zone 0).copy.kind = .fix ∧
    ((measured 1 ⟨.base, .auto, 15, none, 0, false⟩).zone 0).cfg.targetLux +
      ((measured 1 ⟨.base, .auto, 15, none, 0, false⟩).zone 0).cfg.deadband < 1 ∧
    ((measured 0 ⟨.base, .auto, 15, none, 0, false⟩).zone 0).cal = none := by decide +kernel

/-- Zone 0 with its settle and reading timers running. -/
def timed : State := State.reset.setZone 0 { State.reset.zone 0 with settleTimer := some 1, readingTimer := some 1, settling := true }

theorem witness_SettleAndReadingTimers : Operating timed ∧ (timed.zone 0).settleTimer.isSome = true ∧
    (timed.zone 0).readingTimer.isSome = true ∧ timed.link.reports.length < timed.link.threshold ∧
    (timed.zone 0).source = .none := by refine ⟨rfl, ?_⟩; decide +kernel

theorem witness_ScanStartsOrIsOwed : Operating (polled .starting [] none) ∧
    (polled .starting [] none).scanner.poll = some ⟨16, some 3, false⟩ ∧ State.reset.scanner.poll = none ∧
    (∀ c, (State.reset.channel c).used = false) ∧
    (((polled .starting [] none).setScanner State.reset.scanner).channel 16).used = true ∧
    (∀ d, d < 16 → (((polled .starting [] none).setScanner State.reset.scanner).channel d).used = false) ∧
    State.reset.scanner.owed = false := by refine ⟨rfl, rfl, rfl, ?_⟩; decide +kernel

theorem witness_AnswerFiltersAndPublishes : Operating (polled .starting [1, 65535] none) ∧
    (polled .starting [1, 65535] none).scanner.poll = some ⟨16, some 3, false⟩ ∧ (16 : Byte).toNat = (16 : ChannelId).val ∧
    ((1 : Half) ≠ 0 ∧ (65534 : Half) ≠ 0xFFFF) ∧ min 65535 ((65534 : Half).toNat * 1024 / 1024) ≠ 65535 ∧
    ((polled .starting [1, 65535] none).channel 16).state = .starting ∧
    ((polled .starting [1] none).channel 16).history.length < 2 ∧
    ((polled .starting [1, 65535] none).channel 16).history = [1, 65535] ∧
    ((polled .valid [1, 2, 3] (some 2)).channel 16).state = .valid ∧
    ((polled .valid [1, 2, 3] (some 2)).channel 16).lastRaw ≠ some 1 ∧
    ((polled .valid [1, 2, 3] (some 2)).channel 16).filtered = some 2 := by
  refine ⟨rfl, rfl, ?_⟩; decide +kernel

theorem witness_UnansweredPollsSilenceAChannel : Operating (polled .valid [1, 2, 3] (some 2)) ∧
    (polled .valid [1, 2, 3] (some 2)).scanner.poll = some ⟨16, some 3, false⟩ ∧
    ((polled .valid [1, 2, 3] (some 2)).channel 16).state = .valid ∧
    ((polled .valid [1, 2, 3] (some 2)).channel 16).missCount = 0 ∧
    1 ≤ (((polled .starting [] none).setChannel 16 { (polled .starting [] none).channel 16 with missCount := 1 }).channel
      16).missCount ∧
    ((polled .starting [] none).setScanner { State.reset.scanner with poll := some ⟨16, none, true⟩ }).scanner.poll =
      some ⟨16, none, true⟩ ∧ (17 : Byte).toNat ≠ (16 : ChannelId).val := by refine ⟨rfl, rfl, ?_⟩; decide +kernel

theorem witness_BusHoldAndReleaseSetTheLineState : Taking State.reset ∧ 1 < (2 : Byte).toNat ∧
    ((0 : Byte).toNat = lineCode .l0 ∧ (1 : Byte).toNat = lineCode .l1) ∧ (State.reset.line .l1).state = .run ∧
    (State.reset.line .l1).transaction = none ∧
    ((lamp Luminaire.reset [] (some ⟨3, .set, 0, .update, 1⟩)).line .l0).transaction ≠ none ∧
    ((State.reset.setLine .l0 { State.reset.lineL0 with state := .held }).line .l0).state ≠ .run :=
  ⟨reset_taking, by decide, by decide, rfl, rfl, by decide, by decide⟩

/-- Line L0 listing a luminaire that names no zone. -/
def zoneless : State := State.reset.setLine .l0 { State.reset.lineL0 with list := [3] }

theorem witness_UpdateSendsTheScaledOutput : Operating (lamp { Luminaire.reset with dirty := true } [3] none) ∧
    ((lamp { Luminaire.reset with dirty := true } [3] none).line .l0).state = .run ∧
    ((lamp { Luminaire.reset with dirty := true } [3] none).line .l0).transaction = none ∧
    ((lamp { Luminaire.reset with dirty := true } [3] none).line .l0).list = 3 :: [] ∧
    ((lamp { Luminaire.reset with dirty := true } [3] none).lum .l0 3).zone = some 0 ∧
    ((lamp { Luminaire.reset with dirty := true } [3] none).zone 0).output ≤ 1000 ∧
    ((lamp { Luminaire.reset with dirty := true } [3] none).lum .l0 3).trim ≤ 1000 ∧
    Operating zoneless ∧ (zoneless.line .l0).state = .run ∧ (zoneless.line .l0).transaction = none ∧
    (zoneless.line .l0).list = 3 :: [] ∧ (zoneless.lum .l0 3).zone = none := by
  refine ⟨rfl, rfl, rfl, rfl, ?_, ?_, ?_, rfl, ?_⟩ <;> decide +kernel

/-- Line L0 with a SET of level 100 in flight. -/
def setting (attempt : Nat) : State := lamp Luminaire.reset [] (some ⟨3, .set, 100, .update, attempt⟩)

theorem witness_SetIsConfirmedSentAgainOrMissing : Operating (setting 1) ∧
    ((setting 1).line .l0).transaction = some ⟨3, .set, 100, .update, 1⟩ ∧
    ((120 : Half).toNat ≤ 100 + 20 ∧ 100 ≤ (80 : Half).toNat + 20 ∧ (120 : Half).toNat ≤ 1000) ∧
    ((setting 1).lum .l0 3).presence ≠ .missing ∧ ((setting 1).lum .l0 3).mismatch = false ∧
    ((setting 1).lum .l0 3).dirty = false ∧ ((setting 1).line .l0).state = .run ∧ 1000 < (1001 : Half).toNat ∧
    ((setting 2).line .l0).transaction = some ⟨3, .set, 100, .update, 2⟩ ∧ ((setting 2).lum .l0 3).zone = some 0 ∧
    ((setting 2).target (zoneTarget 0)).window = false ∧ ((setting 2).response .luminaireMissing).action = .report ∧
    ((setting 2).target (zoneTarget 0)).fault = none := by
  refine ⟨rfl, rfl, ?_⟩; decide +kernel

/-- Line L0 with one luminaire configured, an audit owed and a cursor. -/
def audited (cursor : Option Address) : State :=
  (lamp Luminaire.reset [] none).setLine .l0
    { (lamp Luminaire.reset [] none).lineL0 with auditOwed := true, cursor := cursor }

theorem witness_AuditsGoRoundTheLine : Operating (audited none) ∧ ((audited none).line .l0).state = .run ∧
    ((audited none).line .l0).transaction = none ∧ ((audited none).line .l0).list = [] ∧
    ((audited none).line .l0).auditOwed = true ∧ ((audited none).lum .l0 3).configured = true ∧
    ((audited (some 95)).line .l0).cursor = some 95 ∧
    (∀ b, ((audited (some 95)).lum .l0 b).configured = true → b ≤ 95 ∧ 3 ≤ b) ∧
    (∀ a, (State.reset.lum .l0 a).configured = false) := by
  refine ⟨rfl, rfl, rfl, rfl, rfl, ?_⟩; decide +kernel

theorem witness_QueriesAnswerASnapshot : Taking State.reset ∧
    ((63 : TargetId).val = (63 : Half).toNat ∧ 63 < (64 : Half).toNat ∧ (47 : ZoneId).val = (47 : Half).toNat ∧
      47 < (48 : Half).toNat ∧ (15 : BayId).val = (15 : Half).toNat ∧ 15 < (16 : Half).toNat ∧
      (31 : Half).toNat ≤ 31 ∧ 31 < (32 : Half).toNat) ∧
    ((1 : Byte).toNat = lineCode .l1 ∧ 1 < (2 : Byte).toNat ∧ (95 : Byte).toNat = (95 : Address).val ∧
      95 < (96 : Byte).toNat ∧ (63 : TargetId).val = (63 : Byte).toNat ∧ 63 < (64 : Byte).toNat) :=
  ⟨reset_taking, by decide, by decide⟩

theorem witness_SnapshotsFollowTheirLayouts : (zoneLocked.target 0).fault.isSome = true ∧
    (State.reset.target 0).fault = none ∧ (waiting.pendingList[0]?).isSome = true ∧
    State.reset.pendingList.length ≤ 31 ∧
    (∀ p : ChannelState → Bool, ((List.finRange 64).filter fun c => p (State.reset.channel c).state).length =
      ((List.finRange 64).filter fun c => p (State.reset.channel c).state).length) ∧
    (∃ t, ((setting 1).line .l0).transaction = some t ∧ t.address = 3) ∧
    ¬ (∃ t, ((setting 1).line .l0).transaction = some t ∧ t.address = 4) := by
  refine ⟨by decide +kernel, by decide +kernel, by decide +kernel, by decide +kernel, fun _ => rfl, ⟨_, rfl, rfl⟩, ?_⟩
  rintro ⟨t, h, ha⟩
  cases h; cases ha

end Sys2Proof.Tests
end

section
/-! SUPPORT. The zone update (R48 to R50): its target, gain and bounds, the sign of its correction, and what a governing sample
leaves of the state. -/

namespace Sys2Proof.Machine

open Sys2Proof

/-! ### What an update reads -/

/-- The target of an update: the SETPOINT value under a SETPOINT copy, the configured illuminance under any other. -/
theorem Zone.target_eq {r : Zone} {goal : Nat}
    (h : r.copy.kind = .setpoint ∧ r.copy.value = some goal ∨ r.copy.kind ≠ .setpoint ∧ goal = r.cfg.targetLux) :
    r.target = goal := by
  unfold Zone.target
  obtain ⟨hk, hv⟩ | ⟨hk, rfl⟩ := h
  · rw [hk, hv]
  · split
    next hs _ => exact absurd hs hk
    next => rfl

/-- The gain of an update: the EG of the calibration record where there is one, else the nominal gain. -/
theorem Zone.gain_eq {r : Zone} {gain : Nat}
    (h : (∃ c, r.cal = some c ∧ gain = c.eg) ∨ r.cal = none ∧ gain = r.cfg.nominalGain) : r.gain = gain := by
  unfold Zone.gain
  obtain ⟨c, hc, rfl⟩ | ⟨hc, rfl⟩ := h <;> rw [hc]

/-- The bounds of R50 with the upper one as CAP leaves it. -/
theorem clampLevel_eq {cfg : ZoneConfig} {copy : ContextCopy} {upper : Nat}
    (h : (∃ c, copy.kind = .cap ∧ copy.value = some c ∧ upper = min cfg.maxLevel c) ∨
      copy.kind ≠ .cap ∧ upper = cfg.maxLevel) (v : Nat) :
    clampLevel cfg copy v = min (max v cfg.minLevel) upper := by
  unfold clampLevel
  obtain ⟨c, hk, hv, rfl⟩ | ⟨hk, rfl⟩ := h
  · rw [hk, hv]
  · split
    next hc _ => exact absurd hc hk
    next => rfl

/-! ### The correction -/

/-- A measure at or below the target raises the output; the quotient rounds down. -/
theorem add_halfError_of_le {goal m : Nat} (h : m ≤ goal) (output gain : Nat) :
    ((output : Int) + (((goal : Int) - m) * 500).tdiv gain).toNat = output + (goal - m) * 500 / gain := by
  have hd : (((goal : Int) - m) * 500).tdiv gain = ((goal - m) * 500 / gain : Nat) := by
    rw [← Nat.cast_sub h]; rfl
  rw [hd]; rfl

/-- A measure at or above the target lowers the output, not below 0: rounding toward zero, the quotient's size rounds down. -/
theorem add_halfError_of_ge {goal m : Nat} (h : goal ≤ m) (output gain : Nat) :
    ((output : Int) + (((goal : Int) - m) * 500).tdiv gain).toNat = output - (m - goal) * 500 / gain := by
  have hn : ((goal : Int) - m) * 500 = -(((m - goal) * 500 : Nat) : Int) := by push_cast [Nat.cast_sub h]; ring
  have hd : (((goal : Int) - m) * 500).tdiv gain = -((m - goal) * 500 / gain : Nat) := by
    rw [hn, Int.neg_tdiv]; rfl
  rw [hd, ← sub_eq_add_neg]
  exact Int.toNat_sub _ _

/-- Within the deadband an update changes nothing (R49, step 4). -/
theorem Zone.correct_of_within_deadband {r : Zone} {m : Nat} (hlo : r.target ≤ m + r.cfg.deadband)
    (hhi : m ≤ r.target + r.cfg.deadband) : r.correct m = r := by
  unfold Zone.correct
  exact if_pos (by omega)

/-- Outside the deadband an update sets the ramp target to the bounded correction of the output, and the ramp timer as R51
says (R49, steps 5 and 6). -/
theorem Zone.correct_of_outside_deadband {r : Zone} {m : Nat}
    (h : m + r.cfg.deadband < r.target ∨ r.target + r.cfg.deadband < m) {ramp : Nat}
    (hr : ramp = clampLevel r.cfg r.copy ((r.output : Int) + (((r.target : Int) - m) * 500).tdiv r.gain).toNat) :
    r.correct m = { r with
      rampTarget := ramp
      rampTimer := if r.output = ramp then none else some (r.rampTimer.getD 100) } := by
  subst hr
  unfold Zone.correct
  dsimp only
  rw [if_neg (by omega), Zone.settleRamp_eq]

/-! ### Governing samples -/

/-- A governing sample that R48 keeps from starting an update. -/
theorem governingSample_of_not_updating {z : ZoneId} {s : State}
    (h : (s.target (zoneTarget z)).state ≠ .active ∨ (s.zone z).settling = true ∨ (s.zone z).copy.kind = .fix) :
    governingSample z s = s := by
  unfold governingSample
  refine if_neg ?_
  obtain h | h | h := h <;> simp [Target.isActive, ContextCopy.measuring, h]

/-- A governing sample that starts an update from a measure. -/
theorem governingSample_of_updating {z : ZoneId} {m : Nat} {s : State} (hm : measure s z = some m)
    (ha : (s.target (zoneTarget z)).state = .active) (hs : (s.zone z).settling = false)
    (hk : (s.zone z).copy.kind ≠ .fix) :
    governingSample z s = s.setZone z ((s.zone z).correct m) := by
  unfold governingSample
  simp [Target.isActive, ContextCopy.measuring, ha, hs, hk, hm]

/-- Settles O50: R48 decides whether the sample starts an update, and the update is `Zone.correct` by the sign of its error. -/
theorem zoneUpdateCorrectsTheRampTarget : Obligations.ZoneUpdateCorrectsTheRampTarget := by
  intro z m s hm
  refine ⟨governingSample_of_not_updating, fun ha hs hk goal gain upper hgoal hgain hupper => ?_⟩
  have htarget := Zone.target_eq hgoal
  have hg := Zone.gain_eq hgain
  have hclamp := clampLevel_eq hupper
  rw [governingSample_of_updating hm ha hs hk]
  refine ⟨fun hlo hhi => ?_, fun r hr => ?_⟩
  · subst htarget
    rw [Zone.correct_of_within_deadband hlo hhi, State.setZone_self]
  · subst htarget hg
    congr 1
    obtain ⟨hlow, rfl⟩ | ⟨hhigh, rfl⟩ := hr
    · refine Zone.correct_of_outside_deadband (.inl hlow) ?_
      rw [add_halfError_of_le (by omega), hclamp]
    · refine Zone.correct_of_outside_deadband (.inr hhigh) ?_
      rw [add_halfError_of_ge (by omega), hclamp]

end Sys2Proof.Machine
end

section
/-! SUPPORT. The Fault Unit's raise (R102, R103): what a raise adds to the open set, the record that it leaves, the row of R103
that gives its outcome, and its FAULT notice before the Arbiter's part. -/

namespace Sys2Proof.Machine

open Sys2Proof

/-! ### The open set and the latched mark -/

/-- Adding a condition touches the open set and the latched mark of a record alone. -/
theorem FaultRecord.addCondition_frame (f : FaultRecord) (r : Raise) :
    f.addCondition r =
      { f with openSet := (f.addCondition r).openSet, latched := (f.addCondition r).latched } := by
  unfold FaultRecord.addCondition
  repeat' split
  all_goals rfl

/-- A raise of a class that no report ends latches the record. -/
theorem FaultRecord.addCondition_of_latching {r : Raise} (h : r.cls.selfClearing = false) (f : FaultRecord) :
    f.addCondition r = { f with latched := true } := by
  unfold FaultRecord.addCondition
  exact if_neg (by simp [h])

/-- A condition that is open already is not added again. -/
theorem FaultRecord.addCondition_of_mem {r : Raise} {f : FaultRecord} (h : r.cls.selfClearing = true)
    (hmem : ⟨r.cls, r.source⟩ ∈ f.openSet) : f.addCondition r = f := by
  unfold FaultRecord.addCondition
  rw [if_pos h, if_pos (List.contains_iff_mem.mpr hmem)]

/-- A new condition enters at the end of an open set with room. -/
theorem FaultRecord.addCondition_of_room {r : Raise} {f : FaultRecord} (h : r.cls.selfClearing = true)
    (hmem : ⟨r.cls, r.source⟩ ∉ f.openSet) (hroom : f.openSet.length < Config.openSetCap) :
    f.addCondition r = { f with openSet := f.openSet ++ [⟨r.cls, r.source⟩] } := by
  unfold FaultRecord.addCondition
  rw [if_pos h, if_neg (mt List.contains_iff_mem.mp hmem), if_pos hroom]

/-- A new condition latches a record whose open set is full. -/
theorem FaultRecord.addCondition_of_full {r : Raise} {f : FaultRecord} (h : r.cls.selfClearing = true)
    (hmem : ⟨r.cls, r.source⟩ ∉ f.openSet) (hfull : Config.openSetCap ≤ f.openSet.length) :
    f.addCondition r = { f with latched := true } := by
  unfold FaultRecord.addCondition
  rw [if_pos h, if_neg (mt List.contains_iff_mem.mp hmem), if_neg (not_lt.mpr hfull)]

/-! ### The record -/

/-- A record that takes the values of a further raise, before that raise's condition is added (R102). -/
def FaultRecord.supersede (f : FaultRecord) (r : Raise) : FaultRecord :=
  { f with
    latestClass := r.cls, source := r.source, completion := r.completion, detail1 := r.detail1, detail2 := r.detail2
    superseded := min 255 (f.superseded + 1) }

/-- The first raise against a target creates a record of its own values. -/
theorem recordRaise_of_none {s : State} {t : TargetId} (h : (s.target t).fault = none) (r : Raise) :
    recordRaise s t r = FaultRecord.addCondition
      ⟨r.cls, r.cls, r.source, s.seconds, contextAtFault s t, r.completion, r.detail1, r.detail2, [], false, 0, false⟩ r := by
  unfold recordRaise
  rw [h]

/-- A further raise supersedes the values of the record that is there. -/
theorem recordRaise_of_some {s : State} {t : TargetId} {f : FaultRecord} (h : (s.target t).fault = some f) (r : Raise) :
    recordRaise s t r = (f.supersede r).addCondition r := by
  unfold recordRaise
  rw [h]
  rfl

/-- What a further raise leaves of the record outside the open set and the latched mark. -/
theorem recordRaise_of_some_frame {s : State} {t : TargetId} {f : FaultRecord} (h : (s.target t).fault = some f) (r : Raise) :
    recordRaise s t r = { f.supersede r with
      openSet := (recordRaise s t r).openSet, latched := (recordRaise s t r).latched } := by
  rw [recordRaise_of_some h]
  exact FaultRecord.addCondition_frame _ _

/-- A target that is not ACTIVE gives its record no context at fault. -/
theorem contextAtFault_of_not_active {s : State} {t : TargetId} (h : (s.target t).state ≠ .active) :
    contextAtFault s t = none := by
  unfold contextAtFault
  exact if_neg (by simp [Target.isActive, h])

/-- The context at fault of an ACTIVE target is its active context. -/
theorem contextAtFault_of_active {s : State} {t : TargetId} (h : (s.target t).state = .active) :
    contextAtFault s t = some ⟨(s.active t).origin, (s.active t).kind, (s.active t).level⟩ := by
  unfold contextAtFault
  exact if_pos (by simp [Target.isActive, h])

/-! ### The outcome -/

/-- A stack holds a fault context where one of its contexts has the origin FAULT. -/
theorem Target.hasFaultContext_iff {r : Target} : r.hasFaultContext = true ↔ ∃ c ∈ r.above, c.origin = .fault := by
  simp [Target.hasFaultContext]

/-- The rows of R103 that read the Response Table: what an action makes of a raise, given whether a fault context is present. -/
def FaultAction.outcome : FaultAction → Bool → FaultOutcome
  | .lock, _ => .lock
  | .fallback, present => if present then .recorded else .contextInserted
  | .report, _ => .recorded

/-- A target that is not ACTIVE has every raise recorded. -/
theorem raiseOutcome_of_not_active {s : State} {t : TargetId} (h : (s.target t).state ≠ .active) (cls : FaultClass) :
    raiseOutcome s t cls = .recorded := by
  unfold raiseOutcome
  exact if_pos (by simp [Target.isActive, h])

/-- The rows of R103 for an ACTIVE target, in their order: the lock, the open window, the action of the class. -/
theorem raiseOutcome_of_active {s : State} {t : TargetId} (h : (s.target t).state = .active) (cls : FaultClass) :
    raiseOutcome s t cls =
      if (s.target t).locked then .recorded
      else if (s.target t).window then .lock
      else (s.response cls).action.outcome (s.target t).hasFaultContext := by
  unfold raiseOutcome
  dsimp only
  rw [if_neg (by simp [Target.isActive, h])]
  cases (s.response cls).action <;> rfl

/-- A lock stands: a further raise is recorded. -/
theorem raiseOutcome_of_locked {s : State} {t : TargetId} (h : (s.target t).state = .active)
    (hl : (s.target t).locked = true) (cls : FaultClass) : raiseOutcome s t cls = .recorded := by
  rw [raiseOutcome_of_active h, if_pos hl]

/-- A raise in the entry window locks, whatever its class (R108). -/
theorem raiseOutcome_of_window {s : State} {t : TargetId} (h : (s.target t).state = .active)
    (hl : (s.target t).locked = false) (hw : (s.target t).window = true) (cls : FaultClass) :
    raiseOutcome s t cls = .lock := by
  rw [raiseOutcome_of_active h, if_neg (by simp [hl]), if_pos hw]

/-- Without a lock and outside the window the action of the class decides. -/
theorem raiseOutcome_of_no_window {s : State} {t : TargetId} (h : (s.target t).state = .active)
    (hl : (s.target t).locked = false) (hw : (s.target t).window = false) (cls : FaultClass) :
    raiseOutcome s t cls = (s.response cls).action.outcome (s.target t).hasFaultContext := by
  rw [raiseOutcome_of_active h, if_neg (by simp [hl]), if_neg (by simp [hw])]

/-! ### The notice and the Arbiter's part -/

/-- The record with the lock mark that the outcome LOCK sets (R110, step 1). -/
theorem FaultRecord.lock_eq (f : FaultRecord) (o : FaultOutcome) :
    (if o = .lock then { f with lockMark := true } else f) = { f with lockMark := f.lockMark || o == .lock } := by
  by_cases h : o = .lock
  · simp [h]
  · rw [if_neg h, beq_eq_false_iff_ne.mpr h, Bool.or_false]

/-- The FAULT notice of a raise that leaves the record `f`. -/
def Raise.notice (r : Raise) (s : State) (t : TargetId) (f : FaultRecord) : FaultNotice :=
  { target := some t, cls := r.cls, source := r.source, completion := r.completion, detail1 := r.detail1
    detail2 := r.detail2, outcome := raiseOutcome s t r.cls, created := (s.target t).fault.isNone
    locked := f.lockMark, superseded := f.superseded, firstClass := f.firstClass, stamp := s.seconds }

/-- A raise is noted by storing its record, with the lock mark as the outcome has it, and routing its notice. -/
theorem noteRaise_eq {s : State} {t : TargetId} {r : Raise} {f : FaultRecord}
    (hf : f = { recordRaise s t r with
      lockMark := (recordRaise s t r).lockMark || raiseOutcome s t r.cls == .lock }) :
    noteRaise t r s = routeFault (r.notice s t f) (s.setTarget t { s.target t with fault := some f }) := by
  rw [← FaultRecord.lock_eq] at hf
  subst hf
  rfl

/-- A recorded raise leaves nothing to the Arbiter. -/
theorem raiseFault_of_recorded {s : State} {t : TargetId} {r : Raise} (h : raiseOutcome s t r.cls = .recorded)
    (fin : Finisher) : raiseFault fin t r s = noteRaise t r s := by
  unfold raiseFault
  rw [h]

/-- The insertion claim of a raise follows its notice. -/
theorem raiseFault_of_contextInserted {s : State} {t : TargetId} {r : Raise}
    (h : raiseOutcome s t r.cls = .contextInserted) (fin : Finisher) :
    raiseFault fin t r s = fin t (s.active t) (insertionClaim t (noteRaise t r s)) := by
  unfold raiseFault
  rw [h]

/-- The lock of a raise follows its notice. -/
theorem raiseFault_of_lock {s : State} {t : TargetId} {r : Raise} (h : raiseOutcome s t r.cls = .lock)
    (fin : Finisher) : raiseFault fin t r s = fin t (s.active t) (lockTarget t (noteRaise t r s)) := by
  unfold raiseFault
  rw [h]

/-- Settles O35: the record by `addCondition` and its frame, the outcome by the rows of R103 in order, and the Arbiter's part
after `noteRaise`. -/
theorem raiseIsRecordedAndJudged : Obligations.RaiseIsRecordedAndJudged := by
  intro t r s
  refine ⟨fun hnone => ⟨fun hself => ?_, fun hlatch => ?_⟩, fun f hf => ?_,
    fun hidle => ⟨contextAtFault_of_not_active hidle, raiseOutcome_of_not_active hidle _⟩,
    fun hactive => ⟨contextAtFault_of_active hactive, fun hl => raiseOutcome_of_locked hactive hl _,
      fun hl hw => raiseOutcome_of_window hactive hl hw _, fun hl hw => ?_⟩, ?_⟩
  · rw [recordRaise_of_none hnone, FaultRecord.addCondition_of_room hself (by simp) (by simp [Config.openSetCap])]
    rfl
  · rw [recordRaise_of_none hnone, FaultRecord.addCondition_of_latching hlatch]
  · have hframe := recordRaise_of_some_frame hf r
    have hrec := recordRaise_of_some hf r
    generalize recordRaise s t r = g at hframe hrec
    refine ⟨g, rfl, ?_⟩
    rw [hframe]
    refine ⟨rfl, rfl, rfl, rfl, rfl, rfl, rfl, rfl, rfl, rfl, fun hlatch => ?_,
      fun hself => ⟨fun hmem => ?_, fun hmem hroom => ?_, fun hmem hfull => ?_⟩⟩
    · have hg := hrec.trans (FaultRecord.addCondition_of_latching hlatch _)
      exact ⟨congrArg (·.latched) hg, congrArg (·.openSet) hg⟩
    · have hg := hrec.trans (FaultRecord.addCondition_of_mem hself hmem)
      exact ⟨congrArg (·.openSet) hg, congrArg (·.latched) hg⟩
    · have hg := hrec.trans (FaultRecord.addCondition_of_room hself hmem hroom)
      exact ⟨congrArg (·.openSet) hg, congrArg (·.latched) hg⟩
    · have hg := hrec.trans (FaultRecord.addCondition_of_full hself hmem hfull)
      exact ⟨congrArg (·.openSet) hg, congrArg (·.latched) hg⟩
  · rw [raiseOutcome_of_no_window hactive hl hw]
    refine ⟨fun ha => by rw [ha]; rfl, fun ha => by rw [ha]; rfl, fun ha => ?_⟩
    rw [ha]
    exact ⟨fun hmem => if_pos (Target.hasFaultContext_iff.mpr hmem),
      fun hno => if_neg fun h => by
        obtain ⟨c, hc, ho⟩ := Target.hasFaultContext_iff.mp h
        exact hno c hc ho⟩
  · rintro f hf n rfl u rfl fin
    have hnote := noteRaise_eq hf
    exact ⟨fun h => (raiseFault_of_recorded h fin).trans hnote,
      fun h => hnote ▸ raiseFault_of_contextInserted h fin,
      fun h => hnote ▸ raiseFault_of_lock h fin⟩

end Sys2Proof.Machine
end

section
/-! SUPPORT. What an event can write: `Kept P` says that a condition on the link stores, the Scanner's records and the engines is
kept by each such write, and `Kept.step` draws from it that every step of the part keeps the condition. -/

namespace Sys2Proof.Machine

open Sys2Proof

/-- A scan interval that R26 allows. -/
def Scanner.IntervalSound (r : Scanner) : Prop := 100 ≤ r.interval ∧ r.interval ≤ 2000 ∧ r.interval % 100 = 0

/-- What the Decoder may make of a Link Port while it carries out a command: the frame being sent stays, and the inbound stores
stay or are emptied. -/
structure LinkPort.Answered (r k : LinkPort) : Prop where
  sound : r.Sound → k.Sound
  sending : k.sending = r.sending
  stores : (k.mailbox = r.mailbox ∧ k.inbound = r.inbound) ∨ (k.mailbox = none ∧ k.inbound = [])

/-- A condition that each write of a host command keeps, as long as what is written is sound where the record before it was. -/
structure CommandKept (P : State → Prop) : Prop where
  within : ∀ {s t}, Within s t → P s → P t
  floor : ∀ {s t : State}, t.hrdy = s.hrdy → t.link = s.link → t.scanner = s.scanner → t.channels = s.channels →
    t.lineL0 = s.lineL0 → t.lineL1 = s.lineL1 → P s → P t
  answer : ∀ {s} (k : LinkPort), s.link.Answered k → P s → P (s.setLink k)
  scanner : ∀ {s} (k : Scanner), (s.scanner.IntervalSound → k.IntervalSound) → P s → P (s.setScanner k)
  channel : ∀ {s} (c : ChannelId) (r : Channel), ((s.channel c).Sound → r.Sound) → P s → P (s.setChannel c r)
  line : ∀ {s} (l : LineId) (r : Line), ((s.line l).Sound → r.Sound) → P s → P (s.setLine l r)
  reset : ∀ {s}, P s → P { resetBlocks s with link := s.link }

/-- A condition that each write of an event keeps. The end of an update whose luminaire is found MISSING counts as one write:
between its parts the line is not sound. -/
structure Kept (P : State → Prop) : Prop extends CommandKept P where
  link : ∀ {s} (k : LinkPort), (s.link.Sound → k.Sound) → P s → P (s.setLink k)
  ready : ∀ {s} (level : Bool), P s → P { s with hrdy := level }
  missing : ∀ {s} (l : LineId) (t : Transaction), (s.line l).transaction = some t → P s →
    P (endTransaction l t.address (moveCursor l t (foundMissing finish l t s)))

/-! ### Soundness of the Link Port -/

/-- A Link Port whose receiver, gap timer and values are as they were is sound when its stores stay within their bounds. -/
theorem LinkPort.Sound.of_stores {r k : LinkPort} (h : r.Sound) (receiver : k.receiver = r.receiver)
    (gapTimer : k.gapTimer = r.gapTimer) (reports : r.reports.length ≤ 64 → k.reports.length ≤ 64 := by exact id)
    (inbound : r.inbound.length ≤ 16 → k.inbound.length ≤ 16 := by exact id)
    (threshold : k.threshold = r.threshold := by rfl) (audit : k.auditInterval = r.auditInterval := by rfl) : k.Sound :=
  ⟨reports h.reports, inbound h.inbound, threshold ▸ h.threshold, audit ▸ h.audit, receiver ▸ h.receiver,
    by rw [receiver, gapTimer]; exact h.gap⟩

/-- A Link Port that has taken a receiver state, with its gap timer running exactly outside HUNT. -/
theorem LinkPort.Sound.of_receiver {r : LinkPort} (h : r.Sound) (flags : LinkFlags) {x : Receiver} {timer : Timer}
    (hx : x.Sound) (hg : timer.isSome = true ↔ x ≠ .hunt) :
    ({ r with receiver := x, gapTimer := timer, flags := flags } : LinkPort).Sound :=
  ⟨h.reports, h.inbound, h.threshold, h.audit, hx, hg⟩

theorem LinkPort.reset_sound : LinkPort.reset.Sound := by
  refine ⟨?_, ?_, ?_, ?_, trivial, ?_⟩ <;> decide

/-! ### Soundness of a channel record -/

theorem Channel.reset_sound : Channel.reset.Sound := by
  constructor <;> simp [Channel.reset]

/-- A channel without a filtered value, with a history that is still filling. -/
theorem Channel.Sound.of_not_valid {r x : Channel} (h : r.Sound) (scale : x.scale = r.scale) (shift : x.shift = r.shift)
    (state : x.state ≠ .valid) (filtered : x.filtered = none) (values : ∀ v ∈ x.history, v ≤ 65535)
    (length : x.history.length ≤ 2) (misses : x.missCount ≤ 1) (recoveries : x.recoveryCount ≤ 2)
    (run : 1 ≤ x.runCount ∧ x.runCount ≤ 300) : x.Sound where
  scale := scale ▸ h.scale
  shift := shift ▸ h.shift
  values := values
  filtered := by simp [filtered, state]
  filteredRange := by simp [filtered]
  collecting := fun _ => length
  full := fun e => absurd e state
  misses := misses
  recoveries := recoveries
  run := run

/-- A VALID channel with a full history. -/
theorem Channel.Sound.of_valid {r x : Channel} (h : r.Sound) (scale : x.scale = r.scale) (shift : x.shift = r.shift)
    (state : x.state = .valid) {f : Nat} (filtered : x.filtered = some f) (range : f ≤ 65535)
    (values : ∀ v ∈ x.history, v ≤ 65535) (length : x.history.length = 3) (misses : x.missCount ≤ 1)
    (recoveries : x.recoveryCount ≤ 2) (run : 1 ≤ x.runCount ∧ x.runCount ≤ 300) : x.Sound where
  scale := scale ▸ h.scale
  shift := shift ▸ h.shift
  values := values
  filtered := by simp [filtered, state]
  filteredRange := by simp [filtered, range]
  collecting := fun e => absurd state e
  full := fun _ => length
  misses := misses
  recoveries := recoveries
  run := run

/-- A channel whose counts alone have changed. -/
theorem Channel.Sound.of_counts {r x : Channel} (h : r.Sound) (scale : x.scale = r.scale) (shift : x.shift = r.shift)
    (state : x.state = r.state) (history : x.history = r.history) (filtered : x.filtered = r.filtered)
    (misses : x.missCount ≤ 1) (recoveries : x.recoveryCount ≤ 2) (run : 1 ≤ x.runCount ∧ x.runCount ≤ 300) :
    x.Sound where
  scale := scale ▸ h.scale
  shift := shift ▸ h.shift
  values := history ▸ h.values
  filtered := by rw [filtered, state]; exact h.filtered
  filteredRange := filtered ▸ h.filteredRange
  collecting := by rw [state, history]; exact h.collecting
  full := by rw [state, history]; exact h.full
  misses := misses
  recoveries := recoveries
  run := run

theorem Channel.Sound.of_spans {r : Channel} (h : r.Sound) (spans : List Span) : ({ r with spans := spans } : Channel).Sound :=
  ⟨h.scale, h.shift, h.values, h.filtered, h.filteredRange, h.collecting, h.full, h.misses, h.recoveries, h.run⟩

/-- Outside VALID a sound channel has no filtered value. -/
theorem Channel.Sound.filtered_none {r : Channel} (h : r.Sound) (e : r.state ≠ .valid) : r.filtered = none := by
  rw [← Option.not_isSome_iff_eq_none]; exact mt h.filtered.1 e

theorem Channel.scaled_le (r : Channel) (raw : Nat) : r.scaled raw ≤ 65535 := Nat.min_le_left _ _

theorem median3_le {a b c n : Nat} (ha : a ≤ n) (hb : b ≤ n) (hc : c ≤ n) : median3 a b c ≤ n := by
  unfold median3; omega

theorem medianOf_le {l : List Nat} {n : Nat} (h : ∀ v ∈ l, v ≤ n) : medianOf l ≤ n := by
  unfold medianOf
  split
  · exact median3_le (h _ (by simp)) (h _ (by simp)) (h _ (by simp))
  · exact Nat.zero_le _

/-- The filter moves up by the difference over the power of two that the shift gives. -/
theorem filterStep_of_le {f m : Nat} (h : f ≤ m) (shift : Nat) : filterStep f m shift = f + (m - f) / 2 ^ shift := by
  unfold filterStep
  have hd : ((m : Int) - f).tdiv (2 ^ shift) = ((m - f) / 2 ^ shift : Nat) := by
    rw [← Nat.cast_sub h]; rfl
  rw [hd]; rfl

/-- The filter moves down by the difference over the power of two that the shift gives, rounded toward zero. -/
theorem filterStep_of_ge {f m : Nat} (h : m ≤ f) (shift : Nat) : filterStep f m shift = f - (f - m) / 2 ^ shift := by
  unfold filterStep
  have hn : (m : Int) - f = -((f - m : Nat) : Int) := by rw [Nat.cast_sub h]; ring
  have hd : ((m : Int) - f).tdiv (2 ^ shift) = -((f - m) / 2 ^ shift : Nat) := by
    rw [hn, Int.neg_tdiv]; rfl
  rw [hd, ← sub_eq_add_neg]
  exact Int.toNat_sub _ _

/-- The filter stays between the old filtered value and the median. -/
theorem filterStep_le {f m n : Nat} (hf : f ≤ n) (hm : m ≤ n) (shift : Nat) : filterStep f m shift ≤ n := by
  rcases Nat.le_total f m with h | h
  · rw [filterStep_of_le h]
    have := Nat.div_le_self (m - f) (2 ^ shift)
    omega
  · rw [filterStep_of_ge h]; exact (Nat.sub_le _ _).trans hf

/-- The run after an answer touches the run count and the spans alone, and keeps the count in its range. -/
theorem Channel.run_frame (r : Channel) (prev : Option Nat) (raw : Nat) :
    r.run prev raw = { r with runCount := (r.run prev raw).runCount, spans := (r.run prev raw).spans } ∧
      1 ≤ (r.run prev raw).runCount ∧ (r.run prev raw).runCount ≤ 300 := by
  unfold Channel.run
  split
  · refine ⟨rfl, ?_, ?_⟩ <;> simp [Config.skyRunLimit]
  · exact ⟨rfl, le_refl 1, show 1 ≤ 300 by decide⟩

/-! ### Soundness of a line -/

theorem Line.reset_sound : Line.reset.Sound := by
  refine ⟨⟨List.nodup_nil, fun a => ?_⟩, fun t h => by cases h⟩
  simp [Line.waits, Line.lum, Line.reset, Luminaire.reset]

/-- What the other blocks leave of a line keeps it sound. -/
theorem Line.Sound.of_engine {r x : Line} (h : r.Sound) (e : r.SameEngine x) (hl : x.Listed) : x.Sound :=
  ⟨hl, fun t ht hp => by
    rw [e.lums t.address]
    exact h.update t (e.transaction ▸ ht) hp⟩

/-- A change of a line outside its list, its transaction and its luminaires. -/
theorem Line.Sound.of_same {r x : Line} (h : r.Sound) (list : x.list = r.list) (transaction : x.transaction = r.transaction)
    (lums : x.lums = r.lums) : x.Sound := by
  have hw : ∀ a, x.waits a = r.waits a := fun a => by
    unfold Line.waits Line.lum Line.inFlight; rw [transaction, lums]
  refine ⟨⟨list ▸ h.list.nodup, fun a => ?_⟩, fun t ht hp => ?_⟩
  · rw [list, hw]; exact h.list.listed a
  · unfold Line.lum; rw [lums]; exact h.update t (transaction ▸ ht) hp

theorem Line.inFlight_eq {r : Line} {t : Transaction} (h : r.transaction = some t) (a : Address) :
    r.inFlight a = (t.address == a) := by
  unfold Line.inFlight; rw [h]

/-- A luminaire in flight is not listed, and its record can be written without touching the list. -/
theorem Line.Listed.setLum_inFlight {r : Line} {t : Transaction} (h : r.Listed) (ht : r.transaction = some t)
    (v : Luminaire) : (r.setLum t.address v).Listed := by
  refine ⟨h.nodup, fun b => ?_⟩
  rw [Line.setLum_list, h.listed b]
  by_cases e : b = t.address
  · subst e; simp [Line.waits, Line.inFlight_eq ht]
  · simp [Line.waits, Line.lum_setLum_other _ _ _ _ e]

/-- A sound line stays sound when a record of its luminaire in flight is written that is not MISSING. -/
theorem Line.Sound.setLum_inFlight {r : Line} {t : Transaction} (h : r.Sound) (ht : r.transaction = some t)
    {v : Luminaire} (hv : v.presence ≠ .missing ∨ v.presence = (r.lum t.address).presence) :
    (r.setLum t.address v).Sound := by
  refine ⟨h.list.setLum_inFlight ht v, fun t' ht' hp => ?_⟩
  obtain rfl : t' = t := Option.some.inj (ht'.symm.trans ht)
  rw [Line.lum_setLum_same]
  rcases hv with hv | hv
  · exact hv
  · rw [hv]; exact h.update t' ht hp

@[simp] theorem Line.place_transaction (r : Line) (a : Address) : (r.place a).transaction = r.transaction :=
  (Line.place_engine r a).transaction

/-- The head of the list is taken into flight, no longer dirty; without a zone it only leaves the list. -/
theorem Line.Sound.taken {r x : Line} {a : Address} {rest : List Address} (h : r.Sound) (hn : r.transaction = none)
    (hl : r.list = a :: rest) (list : x.list = rest) (here : (x.lum a).dirty = false)
    (presence : (x.lum a).presence = (r.lum a).presence) (others : ∀ b, b ≠ a → x.lum b = r.lum b)
    (flight : ∀ t, x.transaction = some t → t.address = a) : x.Sound := by
  have hnodup := h.list.nodup
  rw [hl, List.nodup_cons] at hnodup
  have hfree : ∀ b, r.inFlight b = false := fun b => by unfold Line.inFlight; rw [hn]
  have hwaits := (h.list.listed a).1 (hl ▸ List.mem_cons_self)
  have hpresent : (r.lum a).presence ≠ .missing := by
    simp only [Line.waits, Bool.and_eq_true, bne_iff_ne] at hwaits
    exact hwaits.1.2
  refine ⟨⟨list ▸ hnodup.2, fun b => ?_⟩, fun t ht _ => by rw [flight t ht, presence]; exact hpresent⟩
  rw [list]
  by_cases e : b = a
  · subst e; simp [hnodup.1, Line.waits, here]
  · have hx : x.inFlight b = false := by
      unfold Line.inFlight
      split
      · rfl
      · next t ht => rw [flight t ht]; simpa using fun y => e y.symm
    have := h.list.listed b
    rw [hl, List.mem_cons, or_iff_right e] at this
    rw [this]
    simp [Line.waits, others b e, hx, hfree]

theorem Line.quiet_iff {r : Line} : r.quiet = true ↔ r.state = .run ∧ r.transaction = none := by
  simp [Line.quiet]

/-- An audit of a line with nothing listed. -/
theorem Line.Sound.audited {r x : Line} (h : r.Sound) (hl : r.list = []) (list : x.list = []) (lums : x.lums = r.lums)
    (hn : r.transaction = none) (flight : ∀ t, x.transaction = some t → t.purpose = .audit) : x.Sound := by
  refine ⟨⟨list ▸ List.nodup_nil, fun b => ?_⟩, fun t ht hp => ?_⟩
  · have hw : r.waits b = false := by
      have := h.list.listed b
      rw [hl] at this
      simpa using this
    have hf : r.inFlight b = false := by unfold Line.inFlight; rw [hn]
    simp only [Line.waits, hf, Bool.not_false, Bool.and_true] at hw
    have : x.lum b = r.lum b := by unfold Line.lum; rw [lums]
    simp [list, Line.waits, this, hw]
  · rw [flight t ht] at hp; cases hp

end Sys2Proof.Machine
end

section
/-! SUPPORT. Every operation of the part keeps a condition that its writes keep: the link and the end of an event, the host
commands, the Scanner, the engines, and from these each row and each step. -/

namespace Sys2Proof.Machine

open Sys2Proof

theorem State.setLine_self (s : State) (l : LineId) : s.setLine l (s.line l) = s := by cases l <;> rfl

theorem finish_within {s u : State} (h : Within s u) (t : TargetId) (c : Context) : Within s (finish t c u) :=
  finish_stays t c s u h

section
variable {P : State → Prop} (hk : CommandKept P)
include hk

/-! ### Records outside the link, the Scanner and the engines -/

theorem CommandKept.setZone {s : State} (h : P s) (z : ZoneId) (r : Zone) : P (s.setZone z r) :=
  hk.floor (s := s) rfl rfl rfl rfl rfl rfl h

theorem CommandKept.setBay {s : State} (h : P s) (b : BayId) (r : Bay) : P (s.setBay b r) :=
  hk.floor (s := s) rfl rfl rfl rfl rfl rfl h

theorem CommandKept.setTarget {s : State} (h : P s) (t : TargetId) (r : Target) : P (s.setTarget t r) :=
  hk.floor (s := s) rfl rfl rfl rfl rfl rfl h

theorem CommandKept.setDrive {s : State} (h : P s) (b : BayId) (r : Drive) : P (s.setDrive b r) :=
  hk.floor (s := s) rfl rfl rfl rfl rfl rfl h

theorem CommandKept.setView {s : State} (h : P s) (c : ChannelId) (r : ChannelView) : P (s.setView c r) :=
  hk.floor (s := s) rfl rfl rfl rfl rfl rfl h

/-! ### The link -/

theorem CommandKept.reply {s : State} (h : P s) (hg : GateOpen s) (tag : Byte) (status : Status) (result : List Byte) :
    P (enterReply tag status result s) :=
  hk.answer _ ⟨fun k => k.of_stores rfl rfl fun _ => replied_bounded (tag := tag) (status := status) (result := result) hg,
    rfl, .inl ⟨rfl, rfl⟩⟩ h

/-! ### Starting transactions -/

theorem CommandKept.startUpdate {s : State} (h : P s) (l : LineId) : P (startUpdate l s) := by
  unfold Machine.startUpdate; dsimp only
  split
  · next hq =>
    obtain ⟨-, hn⟩ := Line.quiet_iff.1 hq
    split
    · exact h
    · next a rest hl =>
      have others : ∀ (v : Luminaire) b, b ≠ a →
          (({ s.line l with list := rest } : Line).setLum a v).lum b = (s.line l).lum b :=
        fun v b e => Line.lum_setLum_other _ _ _ _ e
      split
      · refine hk.line l _ (fun k => k.taken hn hl rfl ?_ ?_ (others _) (fun t ht => by cases ht; rfl)) h
        · exact congrArg (·.dirty) (Line.lum_setLum_same { s.line l with list := rest } a _)
        · exact congrArg (·.presence) (Line.lum_setLum_same { s.line l with list := rest } a _)
      · refine hk.line l _ (fun k => k.taken hn hl rfl ?_ ?_ (others _) (fun t ht => ?_)) h
        · exact congrArg (·.dirty) (Line.lum_setLum_same { s.line l with list := rest } a _)
        · exact congrArg (·.presence) (Line.lum_setLum_same { s.line l with list := rest } a _)
        · cases (hn.symm.trans ht)
  · exact h

theorem CommandKept.startAudit {s : State} (h : P s) (l : LineId) : P (startAudit l s) := by
  unfold Machine.startAudit; dsimp only
  split
  · next hq =>
    simp only [Bool.and_eq_true, Line.quiet_iff, List.isEmpty_iff] at hq
    obtain ⟨⟨⟨-, hn⟩, hl⟩, -⟩ := hq
    split
    · exact hk.line l _ (fun k => k.audited hl hl rfl hn (fun t ht => by cases ht; rfl)) h
    · exact hk.line l _ (fun k => k.audited hl hl rfl hn (fun t ht => by cases (hn.symm.trans ht))) h
  · exact h

theorem CommandKept.testLines {s : State} (h : P s) : P (testLines s) :=
  hk.startAudit (hk.startUpdate (hk.startAudit (hk.startUpdate h .l0) .l0) .l1) .l1

end

section
variable {P : State → Prop} (hk : Kept P)
include hk

/-! ### The stores and the receiver -/

theorem Kept.offerReading {s : State} (h : P s) (r : Record) : P (offerReading r s) := by
  unfold Machine.offerReading; split
  · next room =>
    refine hk.link _ (fun k => k.of_stores rfl rfl fun _ => ?_) h
    have := k.threshold
    simp only [List.length_append, List.length_singleton]
    omega
  · exact h

theorem Kept.routeFrame {s : State} (h : P s) (f : Frame) : P (routeFrame f s) := by
  unfold Machine.routeFrame; dsimp only; repeat' split
  · exact hk.link _ (fun k => k.of_stores rfl rfl) h
  · exact hk.link _ (fun k => k.of_stores rfl rfl) h
  · next room =>
    refine hk.link _ (fun k => k.of_stores rfl rfl id fun _ => ?_) h
    simp only [Config.inboundCap] at room
    simp only [List.length_append, List.length_singleton]
    omega
  · exact hk.link _ (fun k => k.of_stores rfl rfl) h

theorem Kept.hunt {s : State} (h : P s) : P (hunt s) :=
  hk.link _ (fun k => k.of_receiver s.link.flags trivial (by simp)) h

theorem Kept.discardFrame {s : State} (h : P s) : P (discardFrame s) :=
  hk.link (s := Machine.hunt s) _ (fun k => k.of_stores rfl rfl) (hk.hunt h)

theorem Kept.receiveOn {s : State} (h : P s) (r : Receiver) (hr : s.link.Sound → r.Sound) (hn : r ≠ .hunt) :
    P (receiveOn r s) :=
  hk.link _ (fun k => k.of_receiver s.link.flags (hr k) (by simp [hn])) h

theorem Kept.completeFrame {s : State} (h : P s) (body : List Byte) (check : Half) : P (completeFrame body check s) := by
  unfold Machine.completeFrame; repeat' split
  exacts [hk.routeFrame (hk.hunt h) _, hk.discardFrame h, hk.discardFrame h]

/-- A byte taken in a state of R188 leaves a state of R188. -/
theorem Kept.receiveByte {s : State} (h : P s) (b : Byte) (good : Bool) : P (receiveByte b good s) := by
  unfold Machine.receiveByte
  split
  · split
    exacts [hk.receiveOn h _ (fun _ => trivial) (by simp), h]
  · split
    · next hb =>
      simp only [Bool.and_eq_true, decide_eq_true_eq] at hb
      refine hk.receiveOn h _ (fun _ => ⟨hb.1.2, hb.2, ?_⟩) (by simp)
      simp only [List.length_nil]; omega
    · exact hk.discardFrame h
  · next expected kept hr =>
    have length : (kept ++ [b]).length = kept.length + 1 := by simp
    split
    · split
      · next hl =>
        refine hk.receiveOn h _ (fun k => ?_) (by simp)
        obtain ⟨h2, h50, -⟩ : 2 ≤ expected ∧ expected ≤ 50 ∧ kept.length < expected := by
          have := k.receiver; rwa [hr] at this
        exact ⟨h2, h50, hl⟩
      · next hl =>
        refine hk.receiveOn h _ (fun k => ?_) (by simp)
        obtain ⟨h2, h50, hlt⟩ : 2 ≤ expected ∧ expected ≤ 50 ∧ kept.length < expected := by
          have := k.receiver; rwa [hr] at this
        constructor <;> omega
    · exact hk.discardFrame h
  · next kept hr =>
    split
    · exact hk.receiveOn h _ (fun k => by have := k.receiver; rw [hr] at this; exact this) (by simp)
    · exact hk.discardFrame h
  · split
    exacts [hk.completeFrame h _ _, hk.discardFrame h]

/-- A frame that the transmitter starts leaves its store. -/
theorem Kept.startFrame {s s1 : State} (h : P s) (e : startFrame s = some s1) : P s1 := by
  unfold Machine.startFrame at e
  split at e
  · split at e
    · cases e; exact hk.link _ (fun k => k.of_stores rfl rfl) h
    · next hr =>
      cases e
      refine hk.link _ (fun k => k.of_stores rfl rfl fun this => ?_) h
      rw [hr, List.length_cons] at this
      exact (Nat.le_succ _).trans this
    · cases e
  · cases e

/-- A frame that the Decoder chooses leaves its store, and the Report Queue is as it was. -/
theorem Kept.chooseFrame {s s1 : State} {f : Frame} (h : P s) (e : chooseFrame s = some (f, s1)) :
    P s1 ∧ s1.link.reports = s.link.reports := by
  unfold Machine.chooseFrame at e
  split at e
  · cases e; exact ⟨hk.link _ (fun k => k.of_stores rfl rfl) h, rfl⟩
  · next hr =>
    cases e
    refine ⟨hk.link _ (fun k => k.of_stores rfl rfl id fun this => ?_) h, rfl⟩
    rw [hr, List.length_cons] at this
    exact (Nat.le_succ _).trans this
  · cases e

end

end Sys2Proof.Machine
end

section
/-! SUPPORT. The host commands under `CommandKept`: the Decoder takes a command with room for its REPLY, and the command's own writes
keep the condition. -/

namespace Sys2Proof.Machine

open Sys2Proof

/-! ### Operands -/

theorem operandRange_eq_some {lo hi v n : Nat} : operandRange lo hi v = some n ↔ (lo ≤ v ∧ v ≤ hi) ∧ v = n := by
  unfold operandRange; split
  · next h => simp [h]
  · next h => simp [h]

theorem operandScanInterval_eq_some {h : Half} {n : Nat} :
    operandScanInterval h = some n ↔ (100 ≤ h.toNat ∧ h.toNat ≤ 2000 ∧ h.toNat % 100 = 0) ∧ h.toNat = n := by
  unfold operandScanInterval; split
  · next e => simp [e]
  · next e => simp only [reduceCtorEq, e, false_and]

/-! ### A reconfigured channel -/

/-- The channel record that CONFIGURE SENSOR leaves (R27). -/
def configuredChannel (used : Bool) (scale shift : Nat) : Channel :=
  { used := used, scale := scale, shift := shift, state := if used then .starting else .unused, history := [],
    filtered := none, lastRaw := none, missCount := 0, recoveryCount := 0, runCount := 1, spans := [] }

/-- The exchange in flight is discarded when it is the channel's (R27). -/
def discardExchange (c : ChannelId) (s : State) : State :=
  s.setScanner { s.scanner with poll := s.scanner.poll.map fun q => if q.channel = c then { q with discard := true } else q }

theorem configuredChannel_sound (used : Bool) {scale shift : Nat} (hscale : 1 ≤ scale ∧ scale ≤ 4096) (hshift : shift ≤ 4) :
    (configuredChannel used scale shift).Sound := by
  constructor <;> cases used <;> simp [configuredChannel, hscale, hshift]

theorem discardExchange_eq (c : ChannelId) (s : State) :
    (match s.scanner.poll with
      | some p => if p.channel = c then s.setScanner { s.scanner with poll := some { p with discard := true } } else s
      | none => s) = discardExchange c s := by
  have same (h : s.scanner.poll.map (fun q => if q.channel = c then { q with discard := true } else q) = s.scanner.poll) :
      s = discardExchange c s := by unfold discardExchange; rw [h]; rfl
  rcases hp : s.scanner.poll with _ | p
  · exact same (by simp [hp])
  · by_cases hc : p.channel = c
    · simp [discardExchange, hp, hc]
    · simp only [hc, if_false]; exact same (by simp [hp, hc])

section
variable {fin : Finisher} {c : ChannelId} {used : Bool} {scale shift : Nat} {s : State}

/-- A channel that leaves a FAULT state reports the end of its condition. -/
theorem restartChannel_of_fault {k : SensorFault} (h : (s.channel c).state = .fault k) :
    restartChannel fin c used scale shift s =
      endSensorFault fin c k (discardExchange c (s.setChannel c (configuredChannel used scale shift))) := by
  rw [← discardExchange_eq]; unfold restartChannel; dsimp only; rw [h]; rfl

/-- A channel that leaves VALID tells its readers. -/
theorem restartChannel_of_valid (h : (s.channel c).state = .valid) :
    restartChannel fin c used scale shift s =
      stateEvent fin c false (discardExchange c (s.setChannel c (configuredChannel used scale shift))) := by
  rw [← discardExchange_eq]; unfold restartChannel; dsimp only; rw [h]; rfl

/-- A channel in UNUSED or STARTING is only written anew. -/
theorem restartChannel_of_other (hv : (s.channel c).state ≠ .valid) (hf : ∀ k, (s.channel c).state ≠ .fault k) :
    restartChannel fin c used scale shift s =
      discardExchange c (s.setChannel c (configuredChannel used scale shift)) := by
  rw [← discardExchange_eq]; unfold restartChannel; dsimp only
  rcases hs : (s.channel c).state with _ | _ | _ | k
  exacts [rfl, rfl, absurd hs hv, absurd hs (hf k)]

end

/-! ### The place of a reconfigured luminaire -/

/-- A line that is right at every luminaire but one, which may belong on the list without standing there. -/
structure Line.SoundBut (a : Address) (r : Line) : Prop where
  nodup : r.list.Nodup
  others : ∀ b, b ≠ a → (b ∈ r.list ↔ r.waits b = true)
  here : a ∈ r.list → r.waits a = true
  update : ∀ t, r.transaction = some t → t.purpose = .update → (r.lum t.address).presence ≠ .missing

/-- A record of a sound line written with a presence that is no worse and the dirty mark it had. -/
theorem Line.Sound.reconfigure {r : Line} (h : r.Sound) (a : Address) {v : Luminaire}
    (hp : v.presence = .unknown ∨ v.presence = (r.lum a).presence) (hd : v.dirty = (r.lum a).dirty) :
    (r.setLum a v).SoundBut a where
  nodup := h.list.nodup
  others b e := by
    rw [Line.setLum_list, h.list.listed b]
    simp [Line.waits, Line.lum_setLum_other _ _ _ _ e]
  here hm := by
    have hw := (h.list.listed a).1 hm
    simp only [Line.waits, Bool.and_eq_true, bne_iff_ne] at hw
    obtain ⟨⟨dirty, present⟩, free⟩ := hw
    simp only [Line.waits, Line.lum_setLum_same, Line.inFlight_setLum, Bool.and_eq_true, bne_iff_ne]
    refine ⟨⟨hd.trans dirty, ?_⟩, free⟩
    rcases hp with hp | hp <;> rw [hp]
    exacts [by decide, present]
  update t ht hu := by
    by_cases e : t.address = a
    · subst e
      rw [Line.lum_setLum_same]
      rcases hp with hp | hp <;> rw [hp]
      exacts [by decide, h.update t ht hu]
    · rw [Line.lum_setLum_other _ _ _ _ e]; exact h.update t ht hu

/-- Marking the luminaire, which has a zone, makes the line right there too. -/
theorem Line.SoundBut.mark {r : Line} {a : Address} (h : r.SoundBut a) (hc : (r.lum a).configured = true)
    (hz : (r.lum a).zone.isSome = true) : (r.mark a).Sound := by
  have he := Line.mark_engine r a
  refine ⟨?_, fun t ht hu => by rw [he.lums]; exact h.update t (he.transaction ▸ ht) hu⟩
  unfold Line.mark
  rw [if_pos (by simp [hc, hz])]
  refine Line.place_listed h.nodup (fun b e => ?_) (fun hm => ?_)
  · rw [Line.setLum_list, h.others b e]
    simp [Line.waits, Line.lum_setLum_other _ _ _ _ e]
  · have hw := h.here hm
    simp only [Line.waits, Bool.and_eq_true] at hw
    simpa [Line.waits] using And.intro hw.1.2 hw.2

/-- Taking the luminaire off the list with its dirty mark cleared makes the line right there too. -/
theorem Line.SoundBut.unlist {r : Line} {a : Address} (h : r.SoundBut a) :
    ({ r.setLum a { r.lum a with dirty := false } with list := r.list.filter fun x => x != a } : Line).Sound := by
  have same : ∀ b, ({ r.setLum a { r.lum a with dirty := false } with
      list := r.list.filter fun x => x != a } : Line).lum b = (r.setLum a { r.lum a with dirty := false }).lum b :=
    fun _ => rfl
  refine ⟨⟨h.nodup.filter _, fun b => ?_⟩, fun t ht hu => ?_⟩
  · by_cases e : b = a
    · subst e; simp [Line.waits, same]
    · have := h.others b e
      simp only [List.mem_filter, this, bne_iff_ne, ne_eq, e, not_false_eq_true, and_true]
      rw [show ({ r.setLum a { r.lum a with dirty := false } with
        list := r.list.filter fun x => x != a } : Line).waits b = r.waits b from by
          simp only [Line.waits, same, Line.lum_setLum_other _ _ _ _ e]; rfl]
  · rw [same]
    have := h.update t ht hu
    by_cases e : t.address = a
    · subst e; rwa [Line.lum_setLum_same]
    · rwa [Line.lum_setLum_other _ _ _ _ e]

theorem Line.setLum_setLum (r : Line) (a : Address) (v w : Luminaire) : (r.setLum a v).setLum a w = r.setLum a w := by
  simp [Line.setLum]

theorem State.setLum_eq (s : State) (l : LineId) (a : Address) (v : Luminaire) :
    s.setLum l a v = s.setLine l ((s.line l).setLum a v) := rfl

section
variable {P : State → Prop} (hk : CommandKept P)
include hk

/-! ### The Scanner -/

theorem CommandKept.endSensorFault {s : State} (h : P s) (c : ChannelId) (k : SensorFault) : P (endSensorFault finish c k s) :=
  hk.within ((Within.refl _).endReport finish_stays _ _) h

omit hk in
theorem Bay.returnPending_cfg (r : Bay) : r.returnPending.cfg = r.cfg := rfl

omit hk in
/-- The readers of a state event stay within; the channel's view alone is written beside them. -/
theorem Within.stateEvent {s t : State} {c : ChannelId} {valid : Bool} (h : Within s (t.setView c ⟨valid, none⟩)) :
    Within s (stateEvent finish c valid t) := by
  unfold Machine.stateEvent; dsimp only
  generalize t.setView c ⟨valid, none⟩ = u at h
  have sources (b : BayId) := Within.foldl (fun _ _ z w => Within.reselect finish_stays w z) (zonesOf b) u h
  repeat' split
  · exact (h.reselect finish_stays _).seqCeilingState finish_stays _ _
  · exact h.seqCeilingState finish_stays _ _
  · exact sources _
  · exact ((sources _).setBay _ _ (Bay.returnPending_cfg _)).seqSkyLost _
  · exact h

theorem CommandKept.stateEvent {s : State} (h : P s) (c : ChannelId) (valid : Bool) : P (stateEvent finish c valid s) :=
  hk.within (Within.stateEvent (Within.refl _)) (hk.setView h c _)

/-- A publication writes the channel's view, and the spans of the channels that take it as a reference. -/
theorem CommandKept.publish {s : State} (h : P s) (c : ChannelId) (v : Nat) : P (publish finish c v s) := by
  have h1 : P (s.setView c { s.view c with value := some v }) := hk.setView h c _
  unfold Machine.publish; dsimp only
  generalize s.setView c { s.view c with value := some v } = u at h1
  have hu := Within.refl u
  split
  · refine hk.within (Within.seqCeiling finish_stays ?_ _ _) h1
    split
    exacts [hu.governingSample _, hu]
  · next b _ =>
    unfold referencePublication
    refine foldl_keeps P _ (fun w d hw => ?_) _ _ (hk.within (((Within.foldl (fun _ w z hw => ?_) (zonesOf b) u
      hu).glarePublication finish_stays b v).seqSky b v) h1)
    · dsimp only; split
      · exact hk.channel d _ (fun k => k.of_spans _) hw
      · exact hw
    · split
      exacts [hw.governingSample _, hw]

/-- A channel that enters a FAULT state keeps its scale, its shift and its counts. -/
theorem CommandKept.enterFault {s : State} (h : P s) (c : ChannelId) (k : SensorFault) (d1 d2 : Nat) {r : Channel}
    (scale : r.scale = (s.channel c).scale) (shift : r.shift = (s.channel c).shift)
    (misses : (s.channel c).Sound → r.missCount ≤ 1)
    (run : (s.channel c).Sound → 1 ≤ r.runCount ∧ r.runCount ≤ 300) : P (enterFault finish c k d1 d2 r s) := by
  unfold Machine.enterFault; dsimp only
  generalize hu : raiseFault finish _ _ _ = u
  have h1 : P u := hu ▸ hk.within ((Within.refl _).raiseFault finish_stays _ _) (hk.channel c _
    (fun x => x.of_not_valid scale shift (by simp) rfl (by simp) (by simp) (misses x) (by simp) (run x)) h)
  split
  exacts [hk.endSensorFault h1 _ _, hk.stateEvent h1 _ _, h1]

theorem CommandKept.endCondition {s : State} (h : P s) (c : ChannelId) (k : SensorFault) {r : Channel}
    (scale : r.scale = (s.channel c).scale) (shift : r.shift = (s.channel c).shift)
    (filtered : (s.channel c).Sound → r.filtered = none) (run : r.runCount = (s.channel c).runCount) :
    P (endCondition finish c k r s) := by
  unfold Machine.endCondition
  refine hk.endSensorFault (hk.channel c _ (fun x => ?_) h) c k
  exact x.of_not_valid scale shift (by simp) (filtered x) (by simp) (by simp) (by simp) (by simp)
    (show 1 ≤ r.runCount ∧ r.runCount ≤ 300 from run ▸ x.run)

theorem CommandKept.takeUnanswered {s : State} (h : P s) (c : ChannelId) : P (takeUnanswered finish c s) := by
  unfold Machine.takeUnanswered; dsimp only
  split
  · exact h
  · exact hk.channel c _ (fun x => x.of_counts rfl rfl rfl rfl rfl (by simp) (by simp) x.run) h
  · split
    · next hm => exact hk.channel c _ (fun x => x.of_counts rfl rfl rfl rfl rfl (by simp; omega) x.recoveries x.run) h
    · exact hk.enterFault h c _ _ _ rfl rfl (by simp) (fun x => x.run)

omit hk in
/-- The values of a history that takes one more scaled value. -/
theorem values_append {l : List Nat} {v n : Nat} (h : ∀ x ∈ l, x ≤ n) (hv : v ≤ n) : ∀ x ∈ l ++ [v], x ≤ n := by
  intro x hx
  rcases List.mem_append.1 hx with hx | hx
  · exact h x hx
  · rw [List.mem_singleton.1 hx]; exact hv

theorem CommandKept.takeAnswer {s : State} (h : P s) (c : ChannelId) (raw : Nat) : P (takeAnswer finish c raw s) := by
  unfold Machine.takeAnswer; dsimp only
  generalize hr : s.channel c = r
  have write (x : Channel) (hx : r.Sound → x.Sound) : P (s.setChannel c x) := hk.channel c x (hr ▸ hx) h
  have hv := fun x : Channel => x.scaled_le raw
  split
  · split
    · exact h
    · exact write _ fun x => x.of_counts rfl rfl rfl rfl rfl (by simp) (by simp) x.run
    · exact hk.enterFault h c _ _ _ (by rw [hr]) (by rw [hr]) (by simp) (by rw [hr]; exact fun x => x.run)
  split
  · exact h
  · next hs =>
    have hs : r.state = .starting := hs
    split
    · next hl =>
      refine write _ fun x => x.of_not_valid rfl rfl (by simp [hs]) (x.filtered_none (by simp [hs]))
        (values_append x.values (hv _)) (by simpa using Nat.lt_succ_iff.1 hl) (by simp) x.recoveries x.run
    · next hl =>
      refine hk.publish (hk.stateEvent (write _ fun x => ?_) c true) c _
      have values := values_append x.values (hv { r with missCount := 0, lastRaw := some raw })
      have := x.collecting (by simp [hs])
      exact x.of_valid rfl rfl rfl rfl (medianOf_le values) values (by simp at hl ⊢; omega) (by simp) x.recoveries
        (by simp)
  · next hs =>
    have hs : r.state = .valid := hs
    obtain ⟨frame, run⟩ := Channel.run_frame { r with missCount := 0, lastRaw := some raw } r.lastRaw raw
    generalize ({ r with missCount := 0, lastRaw := some raw } : Channel).run r.lastRaw raw = r1 at frame run
    have scale : r1.scale = r.scale := by rw [frame]
    have shift : r1.shift = r.shift := by rw [frame]
    have history : r1.history = r.history := by rw [frame]
    have filtered : r1.filtered = r.filtered := by rw [frame]
    have misses : r1.missCount = 0 := by rw [frame]
    have recoveries : r1.recoveryCount = r.recoveryCount := by rw [frame]
    have state : r1.state = .valid := by rw [frame]; exact hs
    split
    · exact hk.enterFault h c _ _ _ (by rw [hr, scale]) (by rw [hr, shift]) (by simp [misses]) fun _ => run
    · refine hk.publish (write _ fun x => ?_) c _
      have tail : ∀ y ∈ r1.history.tail, y ≤ 65535 := fun y hy => x.values y (history ▸ List.mem_of_mem_tail hy)
      have values := values_append tail (hv { r with missCount := 0, lastRaw := some raw })
      have range : r1.filtered.getD 0 ≤ 65535 := by
        rw [filtered]
        cases hf : r.filtered with
        | none => simp
        | some f => exact x.filteredRange f hf
      refine x.of_valid scale shift state rfl (filterStep_le range (medianOf_le values) _) values ?_ (by simp [misses])
        (recoveries ▸ x.recoveries) run
      simp [history, x.full hs]
  · next hs =>
    have hs : r.state = .fault .stuck := hs
    split
    · exact write _ fun x => x.of_counts rfl rfl rfl rfl rfl (by simp) x.recoveries (by simp [Config.skyRunLimit])
    · exact hk.endCondition h c _ (by rw [hr]) (by rw [hr]) (by rw [hr]; exact fun x => x.filtered_none (by simp [hs]))
        (by rw [hr])
  · next k _ hs =>
    have hs : r.state = .fault k := hs
    split
    · next hc =>
      exact write _ fun x => x.of_counts rfl rfl rfl rfl rfl (by simp) (by simpa using Nat.lt_succ_iff.1 hc) x.run
    · exact hk.endCondition h c _ (by rw [hr]) (by rw [hr]) (by rw [hr]; exact fun x => x.filtered_none (by simp [hs]))
        (by rw [hr])

theorem CommandKept.setPoll {s : State} (h : P s) (c : Option ChannelId) : P (setPoll c s) :=
  hk.scanner _ id h

theorem CommandKept.startOwedScan {s : State} (h : P s) : P (startOwedScan s) := by
  unfold Machine.startOwedScan; split
  · exact hk.setPoll (s := s.setScanner { s.scanner with owed := false }) (hk.scanner _ id h) _
  · exact h

theorem CommandKept.endExchange {s : State} (h : P s) (raw : Option Nat) : P (endExchange raw s) := by
  unfold Machine.endExchange; dsimp only
  split
  · exact h
  · refine hk.startOwedScan (hk.setPoll ?_ _)
    repeat' split
    exacts [h, hk.takeAnswer h _ _, hk.takeUnanswered h _]

theorem CommandKept.restartChannel {s : State} (h : P s) (c : ChannelId) (used : Bool) {scale shift : Nat}
    (hscale : 1 ≤ scale ∧ scale ≤ 4096) (hshift : shift ≤ 4) : P (restartChannel finish c used scale shift s) := by
  have h1 : P (discardExchange c (s.setChannel c (configuredChannel used scale shift))) :=
    hk.scanner _ id (hk.channel c _ (fun _ => configuredChannel_sound used hscale hshift) h)
  rcases hs : (s.channel c).state with _ | _ | _ | k
  · rw [restartChannel_of_other (by simp [hs]) (by simp [hs])]; exact h1
  · rw [restartChannel_of_other (by simp [hs]) (by simp [hs])]; exact h1
  · rw [restartChannel_of_valid hs]; exact hk.stateEvent h1 c false
  · rw [restartChannel_of_fault hs]; exact hk.endSensorFault h1 c k

end

end Sys2Proof.Machine
end

section
/-! SUPPORT. The host commands under `CommandKept`: each enters its REPLY with room for it, and then makes the writes that its rule
names. -/

namespace Sys2Proof.Machine

open Sys2Proof

section
variable {P : State → Prop} (hk : CommandKept P)
include hk

/-! ### Configuration -/

theorem CommandKept.configureZone {s : State} (h : P s) (hg : GateOpen s) (tag : Byte) (p : ZonePayload) :
    P (takeConfigureZone tag p s) := by
  have hr := fun status => hk.reply h hg tag status []
  unfold takeConfigureZone
  repeat' split
  exacts [hr _, hr _, hr _, hk.setTarget (hk.setZone (hr .ok) _ _) _ _]

theorem CommandKept.configureBay {s : State} (h : P s) (hg : GateOpen s) (tag : Byte) (p : BayPayload) :
    P (takeConfigureBay tag p s) := by
  have hr := fun status => hk.reply h hg tag status []
  have sources {u : State} (b : BayId) (hu : P u) : P ((zonesOf b).foldl (fun s z => reselect finish z s) u) :=
    hk.within (Within.foldl (fun _ _ z w => w.reselect finish_stays z) (zonesOf b) u (Within.refl u)) hu
  have position {u : State} (b : BayId) (hu : P u) : P (positionRule b u) := by
    unfold positionRule; dsimp only; split <;> exact hk.setDrive hu _ _
  unfold takeConfigureBay
  dsimp only
  split
  · exact hr _
  split
  · exact hr _
  split
  · exact hr _
  next b cfg _ _ _ =>
  have h2 : P (makeDormant (shadeTarget b) ((Machine.reply tag .ok s).setBay b
      { (Machine.reply tag .ok s).bay b with cfg := cfg })) := hk.setTarget (hk.setBay (hr .ok) _ _) _ _
  generalize makeDormant (shadeTarget b) _ = u at h2
  repeat' split
  · exact h2
  · exact position b h2
  · exact sources b h2
  · exact sources b (position b h2)
  · exact hk.within ((Within.refl _).seqSkyLost b) (sources b h2)
  · exact hk.within ((Within.refl _).seqSkyLost b) (sources b (position b h2))

theorem CommandKept.configureSensor {s : State} (h : P s) (hg : GateOpen s) (tag channel : Byte) (p : SensorPayload) :
    P (takeConfigureSensor tag channel p s) := by
  unfold takeConfigureSensor; split
  · next hscale hshift =>
    rw [operandRange_eq_some] at hscale hshift
    obtain ⟨hscale, rfl⟩ := hscale
    obtain ⟨hshift, rfl⟩ := hshift
    exact hk.restartChannel (hk.reply h hg _ _ _) _ _ hscale hshift.2
  · exact hk.reply h hg _ _ _

theorem CommandKept.configureSensorAll {s : State} (h : P s) (hg : GateOpen s) (tag : Byte) (p : SensorPayload) :
    P (takeConfigureSensorAll tag p s) := by
  unfold takeConfigureSensorAll; split
  · next hi =>
    rw [operandScanInterval_eq_some] at hi
    obtain ⟨hi, rfl⟩ := hi
    exact hk.scanner (s := Machine.reply tag .ok s) _ (fun _ => hi) (hk.reply h hg _ _ _)
  · exact hk.reply h hg _ _ _

/-- The end reports of a luminaire that leaves its zone stay within. -/
def leaveReports (l : LineId) (a : Address) (s : State) : State :=
  let x := s.lum l a
  let s1 := if x.presence = .missing then endLuminaire finish l a x.zone .luminaireMissing s else s
  if x.mismatch then endLuminaire finish l a x.zone .luminaireMismatch s1 else s1

omit hk in
theorem leaveZone_eq (l : LineId) (a : Address) (s : State) : leaveZone l a s = (leaveReports l a s).setLum l a
    { (leaveReports l a s).lum l a with presence := .unknown, mismatch := false } := rfl

omit hk in
theorem Within.endLuminaire {fin : Finisher} (hf : fin.Stays) {s t : State} (h : Within s t) (l : LineId) (a : Address)
    (zone : Option ZoneId) (cls : FaultClass) : Within s (endLuminaire fin l a zone cls t) := by
  unfold Machine.endLuminaire; split
  exacts [h.endReport hf _ _, h]

omit hk in
theorem Within.leaveReports {s t : State} (h : Within s t) (l : LineId) (a : Address) : Within s (leaveReports l a t) := by
  unfold Machine.leaveReports; dsimp only
  have h1 : Within s (if (t.lum l a).presence = .missing then
      Machine.endLuminaire finish l a (t.lum l a).zone .luminaireMissing t else t) := by
    split
    exacts [h.endLuminaire finish_stays _ _ _ _, h]
  split
  exacts [h1.endLuminaire finish_stays _ _ _ _, h1]

omit hk in
theorem State.setLum_setLum (s : State) (l : LineId) (a : Address) (v w : Luminaire) :
    (s.setLum l a v).setLum l a w = s.setLum l a w := by
  rw [State.setLum_eq, State.setLum_eq, State.setLum_eq, State.line_setLine_same, State.setLine_setLine,
    Line.setLum_setLum]

theorem CommandKept.configureLuminaire {s : State} (h : P s) (hg : GateOpen s) (tag : Byte) (p : LuminairePayload) :
    P (takeConfigureLuminaire tag p s) := by
  unfold takeConfigureLuminaire; split
  · next l a zone trim _ _ _ _ =>
    dsimp only
    have h1 : P (Machine.reply tag .ok s) := hk.reply h hg _ _ _
    generalize Machine.reply tag .ok s = u at h1
    -- the line once the record has been written, from a state `w` with the sound line
    have write (w : State) (hw : P w) (x : Luminaire) (hx : x.presence = .unknown ∨ x.presence = (w.lum l a).presence)
        (hd : x.dirty = (w.lum l a).dirty) (hz : x.zone = zone) (hc : x.configured = true) :
        P (if zoneActive (w.setLum l a x) zone then markLuminaire l a (w.setLum l a x)
          else (w.setLum l a x).setLine l { ((w.setLum l a x).line l).setLum a
              { ((w.setLum l a x).line l).lum a with dirty := false } with
            list := ((w.setLum l a x).line l).list.filter fun y => y != a }) := by
      simp only [State.setLum_eq, markLuminaire, State.line_setLine_same, State.setLine_setLine]
      split
      · next ha =>
        refine hk.line l _ (fun k => (k.reconfigure a hx hd).mark ?_ ?_) hw
        · rw [Line.lum_setLum_same]; exact hc
        · rw [Line.lum_setLum_same, hz]
          cases zone with
          | none => simp [zoneActive] at ha
          | some z => rfl
      · exact hk.line l _ (fun k => (k.reconfigure a hx hd).unlist) hw
    split
    · have h2 := hk.within ((Within.refl u).leaveReports l a) h1
      rw [leaveZone_eq]
      generalize leaveReports l a u = w at h2
      simp only [State.setLum_setLum, State.lum_setLum_same]
      exact write w h2 { w.lum l a with
        presence := .unknown, mismatch := false, configured := true, zone := zone, trim := trim } (.inl rfl) rfl rfl rfl
    · exact write u h1 { u.lum l a with configured := true, zone := zone, trim := trim } (.inr rfl) rfl rfl rfl
  · exact hk.reply h hg _ _ _

/-! ### Target states -/

theorem CommandKept.enableZone {s : State} (h : P s) (z : ZoneId) : P (enableZone z s) := by
  have source {u : State} (hu : P u) : P (enableSource z u) := by
    refine hk.within ?_ hu
    have h0 := Within.refl u
    unfold enableSource; dsimp only
    repeat' split
    · exact (h0.setZone _ _).raiseMeasureLost finish_stays _ _
    · exact ((h0.setZone _ _).setZone _ _).endReport finish_stays _ _
    · exact h0.setZone _ _
  unfold Machine.enableZone; dsimp only
  exact hk.within ((Within.refl _).noteChange _) (hk.setTarget (source (hk.within ((Within.refl _).markZone z)
    (hk.setZone (hk.setTarget h _ _) _ _))) _ _)

theorem CommandKept.enableShade {s : State} (h : P s) (b : BayId) : P (enableShade b s) := by
  unfold Machine.enableShade; dsimp only
  refine hk.within (((Within.refl _).driveHandoff finish_stays _ _ _).noteChange _) ?_
  split <;> exact hk.setDrive (hk.setTarget (hk.setBay h _ _) _ _) _ _

theorem CommandKept.enable {s : State} (h : P s) (hg : GateOpen s) (tag target : Byte) : P (takeEnable tag target s) := by
  have hr := fun status => hk.reply h hg tag status []
  unfold takeEnable
  repeat' split
  exacts [hr _, hr _, hr _, hk.enableZone (hr _) _, hk.enableShade (hr _) _, hr _]

theorem CommandKept.dismissTarget {s : State} (h : P s) (t : TargetId) : P (dismissTarget t s) := by
  have notices {u : State} (l : List Context) (hu : P u) : P (l.foldl (fun s c => contextNotice t .discarded c s) u) :=
    hk.within (Within.foldl (fun _ _ c w => Within.contextNotice w t .discarded c) l u (Within.refl u)) hu
  have entries {u : State} (l : List Entry) (hu : P u) : P (l.foldl (fun s e => entryNotice .discarded e s) u) :=
    hk.within (Within.foldl (fun _ _ e w => Within.entryNotice w .discarded e) l u (Within.refl u)) hu
  unfold Machine.dismissTarget; dsimp only
  generalize hu : (s.target t).above.foldl _ _ = u
  have h2 : P u := hu ▸ notices _ (hk.setTarget (entries _ (hk.within ((Within.refl s).setPendingList _) h)) _ _)
  have cleared {u : State} (hu : P u) : P (match (s.target t).fault with
      | some f => if f.lockMark then clearRecord t .disable f u else u
      | none => u) := by
    repeat' split
    exacts [hk.within ((Within.refl _).clearRecord _ _ _) hu, hu, hu]
  split
  · exact cleared h2
  · exact hk.within ((Within.refl _).noteChange _) (cleared h2)

omit hk in
theorem Within.disableShade {s t : State} (h : Within s t) (b : BayId) : Within s (disableShade b t) := by
  unfold Machine.disableShade; dsimp only
  have h1 := h.setBay b _ (Bay.returnPending_cfg (t.bay b))
  repeat' split
  · exact h1.setDrive _ _
  · exact h1.setDrive _ _
  · exact h1.setDrive _ _
  · exact (h1.leaveQueue _).enterOff _
  · exact (h1.enterOff _).releasePower _
  · exact (h1.enterOff _).releasePower _
  · exact h1.enterOff _

theorem CommandKept.disable {s : State} (h : P s) (hg : GateOpen s) (tag target : Byte) : P (takeDisable tag target s) := by
  have hr := fun status => hk.reply h hg tag status []
  unfold takeDisable; dsimp only
  repeat' split
  · exact hr _
  · exact hr _
  · exact hr _
  · exact hk.within ((Within.refl _).checkPreempted finish_stays) (hk.setZone (hk.dismissTarget (hr _) _) _ _)
  · exact hk.within (((Within.refl _).disableShade _).checkPreempted finish_stays) (hk.dismissTarget (hr _) _)

/-! ### Tables -/

theorem CommandKept.setResponse {s : State} (h : P s) (hg : GateOpen s) (tag : Byte) (p : ResponsePayload) :
    P (takeSetResponse tag p s) := by
  unfold takeSetResponse; split
  · exact hk.floor (s := Machine.reply tag .ok s) rfl rfl rfl rfl rfl rfl (hk.reply h hg _ _ _)
  · exact hk.reply h hg _ _ _

theorem CommandKept.setLink {s : State} (h : P s) (hg : GateOpen s) (tag threshold audit : Byte) :
    P (takeSetLink tag threshold audit s) := by
  unfold takeSetLink; split
  · next ht ha =>
    rw [operandRange_eq_some] at ht ha
    obtain ⟨ht, rfl⟩ := ht
    obtain ⟨ha, rfl⟩ := ha
    exact hk.answer (s := Machine.reply tag .ok s) _
      ⟨fun k => ⟨k.reports, k.inbound, ht, ha, k.receiver, k.gap⟩, rfl, .inl ⟨rfl, rfl⟩⟩ (hk.reply h hg _ _ _)
  · exact hk.reply h hg _ _ _

theorem CommandKept.watch {s : State} (h : P s) (hg : GateOpen s) (tag target setting : Byte) :
    P (takeWatch tag target setting s) := by
  unfold takeWatch; split
  · exact hk.setTarget (hk.reply h hg _ _ _) _ _
  · exact hk.reply h hg _ _ _

/-! ### Control -/

theorem CommandKept.request {s : State} (h : P s) (hg : GateOpen s) (tag : Byte) (p : RequestPayload) :
    P (takeRequest tag p s) := by
  have hr := fun status => hk.reply h hg tag status []
  unfold takeRequest
  split
  · exact hr _
  split
  · exact hr _
  unfold placeRequest; dsimp only
  repeat' split
  · exact hk.within (finish_within ((Within.refl _).replaceActive _ _) _ _) (hr _)
  · exact hk.within (finish_within ((Within.refl _).pushClaim _ _) _ _) (hr _)
  · exact hk.floor (s := Machine.reply tag .pending s) rfl rfl rfl rfl rfl rfl (hr _)
  · exact hr _

omit hk in
theorem Within.removeIdentity {s t : State} (h : Within s t) (x : TargetId) (i : Nat) :
    Within s (removeIdentity x i t) := (h.removeContexts _ _).offer _

theorem CommandKept.release {s : State} (h : P s) (hg : GateOpen s) (tag : Byte) (identity : Half) :
    P (takeRelease tag identity s) := by
  have hr := fun status => hk.reply h hg tag status []
  unfold takeRelease
  repeat' split
  · exact hk.within (finish_within ((Within.refl _).removeIdentity _ _) _ _) (hr _)
  · exact hk.within ((Within.refl _).dropEntry _) (hr _)
  · exact hr _

omit hk in
theorem Within.homingAttempt {s t : State} (h : Within s t) (x : TargetId) : Within s (homingAttempt x t) := by
  unfold Machine.homingAttempt; repeat' split
  exacts [h.leaveFailed _, h, h]

theorem CommandKept.clearFault {s : State} (h : P s) (hg : GateOpen s) (tag target : Byte) : P (takeClearFault tag target s) := by
  have hr := fun status => hk.reply h hg tag status []
  unfold takeClearFault
  repeat' split
  · exact hr _
  · exact hr _
  · exact hk.within ((finish_within (((Within.refl _).clearRecord _ _ _).removalClaim _) _ _).homingAttempt _) (hr _)

theorem CommandKept.calibrate {s : State} (h : P s) (hg : GateOpen s) (tag first last settle : Byte) :
    P (takeCalibrate tag first last settle s) := by
  have hr := fun status => hk.reply h hg tag status []
  unfold takeCalibrate
  repeat' split
  · exact hr _
  · exact hr _
  · exact hk.within (Within.startZones finish_stays _ ((Within.refl _).setSweep _)) (hr _)
  · exact hr _

omit hk in
theorem Within.haltBay {s t : State} (h : Within s t) (b : BayId) : Within s (haltBay b t) := by
  unfold Machine.haltBay; dsimp only
  have h1 := h.setBay b { t.bay b with halted := true }
  repeat' split
  exacts [h1, h1.setDrive _ _, h1, h1.setDrive _ _, h1, h1.setDrive _ _, (h1.leaveQueue _).enterIdle _, h1, h]

theorem CommandKept.stopShades {s : State} (h : P s) (hg : GateOpen s) (tag : Byte) : P (takeStopShades tag s) :=
  hk.within (Within.foldl (fun _ _ b w => Within.haltBay w b) (allIds 16) _ (Within.refl _)) (hk.reply h hg _ _ _)

theorem CommandKept.stopSweep {s : State} (h : P s) (hg : GateOpen s) (tag : Byte) : P (takeStopSweep tag s) := by
  have hr := fun result => hk.reply h hg tag .ok result
  unfold takeStopSweep; dsimp only
  repeat' split
  · exact hr _
  · exact hk.within ((Within.refl _).endSweep _) (hr _)
  · exact hk.within ((((((Within.refl _).setSweep _).popClaim finish_stays _).unfreezeBay _).reportZone _ _ _ _).endSweep _)
      (hr _)

theorem CommandKept.stopAfterZone {s : State} (h : P s) (hg : GateOpen s) (tag : Byte) : P (takeStopAfterZone tag s) := by
  have hr := fun result => hk.reply h hg tag .ok result
  unfold takeStopAfterZone; dsimp only
  repeat' split
  exacts [hr _, hk.within ((Within.refl _).setSweep _) (hr _), hr _]

omit hk in
theorem Within.homeDrive {s t : State} (h : Within s t) (b : BayId) : Within s (homeDrive b t) := by
  unfold Machine.homeDrive; dsimp only
  have h1 := (h.setDrive b { t.drive b with position := none, powerTimeout := false }).clearHalted b
  repeat' split
  exacts [h1.enterIdle _, h1.enterIdle _, h1.startMovement finish_stays _ _, h1.setDrive _ _, h1.setDrive _ _, h1,
    h1.setDrive _ _, h1, h1.setDrive _ _, h1]

theorem CommandKept.shadeHome {s : State} (h : P s) (hg : GateOpen s) (tag bay : Byte) : P (takeShadeHome tag bay s) := by
  have hr := fun status => hk.reply h hg tag status []
  unfold takeShadeHome
  repeat' split
  exacts [hr _, hr _, hr _, hk.within ((Within.refl _).homeDrive _) (hr _)]

theorem CommandKept.lineState {s : State} (h : P s) (l : LineId) (state : LineState) :
    P (s.setLine l { s.line l with state := state }) := hk.line l _ (fun k => k.of_same rfl rfl rfl) h

theorem CommandKept.setLineState {s : State} (h : P s) (l : LineId) (state : LineState) : P (setLineState l state s) :=
  hk.within ((Within.refl _).offerNotice _) (hk.lineState h l state)

theorem CommandKept.busHold {s : State} (h : P s) (hg : GateOpen s) (tag line : Byte) : P (takeBusHold tag line s) := by
  have hr := fun status => hk.reply h hg tag status []
  unfold takeBusHold; dsimp only
  repeat' split
  exacts [hr _, hk.setLineState (hr _) _ _, hk.lineState (hr _) _ _, hr _]

theorem CommandKept.busRelease {s : State} (h : P s) (hg : GateOpen s) (tag line : Byte) : P (takeBusRelease tag line s) := by
  have hr := fun status => hk.reply h hg tag status []
  unfold takeBusRelease; dsimp only
  repeat' split
  exacts [hr _, hr _, hk.setLineState (hr _) _ _]

/-! ### Queries -/

theorem CommandKept.answerQuery {s : State} (h : P s) (hg : GateOpen s) (tag : Byte) (snapshot : Option (List Byte)) :
    P (answerQuery tag snapshot s) := by
  unfold Machine.answerQuery; split <;> exact hk.reply h hg _ _ _

/-! ### RESET PART -/

omit hk in
theorem takeResetPart_eq (tag : Byte) (s : State) : takeResetPart tag s =
    { resetBlocks (s.setLink { LinkPort.reset with
        receiver := s.link.receiver, gapTimer := s.link.gapTimer, sending := s.link.sending
        reports := [.started .command (some tag)] }) with
      link := { LinkPort.reset with
        receiver := s.link.receiver, gapTimer := s.link.gapTimer, sending := s.link.sending
        reports := [.started .command (some tag)] } } := rfl

theorem CommandKept.resetPart {s : State} (h : P s) (tag : Byte) : P (takeResetPart tag s) := by
  rw [takeResetPart_eq]
  refine hk.reset (s := s.setLink _) (hk.answer _ ⟨fun k => ?_, rfl, .inr ⟨rfl, rfl⟩⟩ h)
  have r := LinkPort.reset_sound
  exact ⟨show 1 ≤ 64 by decide, r.inbound, r.threshold, r.audit, k.receiver, k.gap⟩

/-! ### The Decoder -/

theorem CommandKept.runCommand {s : State} (h : P s) (hg : GateOpen s) (tag : Byte) (c : Command) : P (runCommand tag c s) := by
  cases c with
  | configureZone p => exact hk.configureZone h hg _ _
  | configureBay p => exact hk.configureBay h hg _ _
  | configureSensor channel p => exact hk.configureSensor h hg _ _ _
  | configureSensorAll p => exact hk.configureSensorAll h hg _ _
  | configureLuminaire p => exact hk.configureLuminaire h hg _ _
  | setResponse p => exact hk.setResponse h hg _ _
  | setLink threshold audit => exact hk.setLink h hg _ _ _
  | enable target => exact hk.enable h hg _ _
  | disable target => exact hk.disable h hg _ _
  | request p => exact hk.request h hg _ _
  | release identity => exact hk.release h hg _ _
  | clearFault target => exact hk.clearFault h hg _ _
  | watch target setting => exact hk.watch h hg _ _ _
  | calibrate first last settle => exact hk.calibrate h hg _ _ _ _
  | stopShadesNow => exact hk.stopShades h hg _
  | stopSweepNow => exact hk.stopSweep h hg _
  | stopSweepAfterZone => exact hk.stopAfterZone h hg _
  | shadeHome bay => exact hk.shadeHome h hg _ _
  | busHold line => exact hk.busHold h hg _ _
  | busRelease line => exact hk.busRelease h hg _ _
  | queryTarget _ | queryZone _ | queryBay _ | querySensor _ | queryLuminaireAll _ | queryFault _ _ | queryPending _ =>
    exact hk.answerQuery h hg _ _
  | querySensorAll => exact hk.answerQuery h hg _ (some (scanSnapshot s))
  | querySweep index => exact hk.answerQuery h hg _ (some (sweepSnapshot s))
  | queryLuminaire line address =>
    unfold Machine.runCommand takeQueryLuminaire
    dsimp only
    split <;> exact hk.answerQuery h hg _ _
  | resetPart => exact hk.resetPart h _

theorem CommandKept.takeFrame {s : State} (h : P s) (hg : GateOpen s) (f : Frame) : P (takeFrame f s) := by
  unfold Machine.takeFrame; split
  exacts [hk.runCommand h hg _ _, hk.reply h hg _ _ _, hk.reply h hg _ _ _]

end

end Sys2Proof.Machine
end

section
/-! SUPPORT. The end of an attempt under `Kept`: while a transaction is in flight the writes at its luminaire keep the condition,
and so does the end of the transaction. -/

namespace Sys2Proof.Machine

open Sys2Proof

/-- The condition holds with transaction `t` in flight on line `l`. -/
structure InFlight (P : State → Prop) (l : LineId) (t : Transaction) (s : State) : Prop where
  kept : P s
  flight : (s.line l).transaction = some t

/-- A line whose transaction has ended, with its luminaire placed when it is still dirty (R152). -/
def Line.ended (r : Line) (a : Address) : Line := ({ r with transaction := none, answerTimer := none } : Line).place a

theorem Within.flight {s u : State} (w : Within s u) (l : LineId) : (u.line l).transaction = (s.line l).transaction :=
  (w.engine l).transaction

@[simp] theorem Line.setLum_transaction (r : Line) (a : Address) (v : Luminaire) :
    (r.setLum a v).transaction = r.transaction := rfl

@[simp] theorem Line.mark_transaction (r : Line) (a : Address) : (r.mark a).transaction = r.transaction :=
  (Line.mark_engine r a).transaction

theorem Line.Sound.mark {r : Line} (h : r.Sound) (a : Address) : (r.mark a).Sound :=
  h.of_engine (Line.mark_engine r a) (Line.mark_listed h.list a)

/-- The second attempt of a transaction is for the luminaire of the first. -/
theorem Line.Sound.again {r : Line} {t : Transaction} (h : r.Sound) (ht : r.transaction = some t) :
    (r.begin { t with attempt := 2 }).Sound := by
  refine ⟨⟨h.list.nodup, fun b => ?_⟩, fun t' ht' hp => ?_⟩
  · have hf : (r.begin { t with attempt := 2 }).inFlight b = r.inFlight b := by
      rw [Line.inFlight_eq ht, Line.inFlight_eq (t := { t with attempt := 2 }) rfl]
    rw [show (r.begin { t with attempt := 2 }).waits b = r.waits b by
      simp only [Line.waits, hf, show ∀ b, (r.begin { t with attempt := 2 }).lum b = r.lum b from fun _ => rfl]]
    exact h.list.listed b
  · obtain rfl : { t with attempt := 2 } = t' := Option.some.inj ht'
    exact h.update t ht hp

/-- The end of a transaction leaves a sound line when its list holds what is dirty and not MISSING, but perhaps not the
luminaire itself. -/
theorem Line.ended_sound {r : Line} {a : Address} (nodup : r.list.Nodup)
    (others : ∀ b, b ≠ a → (b ∈ r.list ↔ ((r.lum b).dirty && (r.lum b).presence != .missing) = true))
    (here : a ∈ r.list → ((r.lum a).dirty && (r.lum a).presence != .missing) = true) : (r.ended a).Sound := by
  have waits : ∀ b, ({ r with transaction := none, answerTimer := none } : Line).waits b =
      ((r.lum b).dirty && (r.lum b).presence != .missing) := fun b => Bool.and_true _
  refine ⟨Line.place_listed nodup (fun b e => ?_) (fun hm => ?_), fun t ht => ?_⟩
  · rw [waits]; exact others b e
  · rw [waits]; exact here hm
  · rw [Line.ended, Line.place_transaction] at ht; cases ht

/-- Outside its luminaire in flight a line is listed by what is dirty and not MISSING. -/
theorem Line.Listed.mem_other {r : Line} {t : Transaction} (h : r.Listed) (ht : r.transaction = some t) {b : Address}
    (e : b ≠ t.address) : b ∈ r.list ↔ ((r.lum b).dirty && (r.lum b).presence != .missing) = true := by
  have he : (t.address == b) = false := by simpa using fun x => e x.symm
  rw [h.listed, Line.waits, Line.inFlight_eq ht, he, Bool.not_false, Bool.and_true]

/-- The luminaire in flight is not on its list. -/
theorem Line.Listed.not_mem {r : Line} {t : Transaction} (h : r.Listed) (ht : r.transaction = some t) :
    t.address ∉ r.list := by
  rw [h.listed]; simp [Line.waits, Line.inFlight_eq ht]

/-- The end of a transaction leaves a sound line: a luminaire still dirty is placed. -/
theorem Line.Listed.end_sound {r : Line} {t : Transaction} (h : r.Listed) (ht : r.transaction = some t) :
    (r.ended t.address).Sound :=
  Line.ended_sound h.nodup (fun _ e => h.mem_other ht e) fun hm => absurd hm (h.not_mem ht)

/-- A line with a luminaire marked and at the head of its list (R163). -/
def Line.deferred (r : Line) (a : Address) : Line :=
  { r.setLum a { r.lum a with dirty := true } with list := a :: r.list.filter fun b => b != a }

theorem Line.lum_deferred_same (r : Line) (a : Address) : (r.deferred a).lum a = { r.lum a with dirty := true } :=
  Line.lum_setLum_same r a _

theorem Line.lum_deferred_other (r : Line) {a b : Address} (h : b ≠ a) : (r.deferred a).lum b = r.lum b :=
  Line.lum_setLum_other r a b _ h

/-- An update that counts as not made leaves a sound line. -/
theorem Line.Sound.deferred {r : Line} {t : Transaction} (h : r.Sound) (ht : r.transaction = some t)
    (hp : t.purpose = .update) : ((r.deferred t.address).ended t.address).Sound := by
  refine Line.ended_sound ?_ (fun b e => ?_) (fun _ => ?_)
  · simpa [Line.deferred] using h.list.nodup.filter _
  · rw [Line.lum_deferred_other r e, ← h.list.mem_other ht e]; simp [Line.deferred, e]
  · rw [Line.lum_deferred_same]; simpa using h.update t ht hp

theorem endTransaction_eq (l : LineId) (a : Address) (s : State) : endTransaction l a s =
    if ((s.line l).ended a).state = .holdPending then
      lineNotice l (s.setLine l { (s.line l).ended a with state := .held })
    else s.setLine l ((s.line l).ended a) := rfl

/-- Ending a transaction reads the line as it was written last. -/
theorem endTransaction_setLine (l : LineId) (a : Address) (s : State) (r : Line) : endTransaction l a (s.setLine l r) =
    if (r.ended a).state = .holdPending then lineNotice l (s.setLine l { r.ended a with state := .held })
    else s.setLine l (r.ended a) := by
  rw [endTransaction_eq, State.line_setLine_same, State.setLine_setLine, State.setLine_setLine]

section
variable {P : State → Prop} (hk : Kept P)
include hk

theorem Kept.lineNotice {s : State} (h : P s) (l : LineId) : P (lineNotice l s) :=
  hk.within ((Within.refl _).offerNotice _) h

/-- A line is written and its transaction ends, leaving the line sound. -/
theorem Kept.endWritten {s : State} (h : P s) {l : LineId} {a : Address} {r : Line}
    (hr : (s.line l).Sound → (r.ended a).Sound) : P (endTransaction l a (s.setLine l r)) := by
  rw [endTransaction_setLine]; split
  · exact hk.lineNotice (hk.line l { r.ended a with state := .held } (fun k => (hr k).of_same rfl rfl rfl) h) l
  · exact hk.line l _ hr h

theorem Kept.endTransaction {s : State} {l : LineId} {t : Transaction} (h : InFlight P l t s) :
    P (endTransaction l t.address s) := by
  rw [← State.setLine_self s l]
  exact hk.endWritten h.kept fun k => k.list.end_sound h.flight

/-! ### Writes with a transaction in flight -/

variable {l : LineId} {t : Transaction}

theorem InFlight.within {s u : State} (h : InFlight P l t s) (w : Within s u) : InFlight P l t u :=
  ⟨hk.within w h.kept, (w.flight l).trans h.flight⟩

/-- A write at the line that keeps its transaction and its soundness. -/
theorem InFlight.setLine {s : State} (h : InFlight P l t s) {r : Line} (hr : (s.line l).Sound → r.Sound)
    (ht : r.transaction = (s.line l).transaction) : InFlight P l t (s.setLine l r) :=
  ⟨hk.line l r hr h.kept, by rw [State.line_setLine_same, ht]; exact h.flight⟩

theorem InFlight.setLum {s : State} (h : InFlight P l t s) {v : Luminaire}
    (hv : v.presence ≠ .missing ∨ v.presence = (s.lum l t.address).presence) :
    InFlight P l t (s.setLum l t.address v) :=
  h.setLine hk (fun k => k.setLum_inFlight h.flight hv) rfl

theorem InFlight.markLuminaire {s : State} (h : InFlight P l t s) : InFlight P l t (markLuminaire l t.address s) :=
  h.setLine hk (fun k => k.mark _) (Line.mark_transaction _ _)

theorem InFlight.endLuminaire {s : State} (h : InFlight P l t s) (zone : Option ZoneId) (cls : FaultClass) :
    InFlight P l t (endLuminaire finish l t.address zone cls s) :=
  h.within hk ((Within.refl _).endLuminaire finish_stays _ _ _ _)

omit hk in
theorem Within.raiseLuminaire {s u : State} (h : Within s u) (l : LineId) (a : Address) (cls : FaultClass) (d1 d2 : Nat) :
    Within s (raiseLuminaire finish l a cls d1 d2 u) := by
  unfold Machine.raiseLuminaire; dsimp only; split
  exacts [h.raiseFault finish_stays _ _, h.raiseUntargeted _]

theorem InFlight.answerPresence {s : State} (h : InFlight P l t s) (level : Nat) :
    InFlight P l t (answerPresence finish l t.address level s) := by
  have h1 := h.setLum hk (v := { s.lum l t.address with presence := .present, confirmed := some level })
    (.inl (by simp))
  unfold Machine.answerPresence; dsimp only; split
  exacts [h1.endLuminaire hk _ _, h1]

theorem InFlight.clearMismatch {s : State} (h : InFlight P l t s) :
    InFlight P l t (clearMismatch finish l t.address s) := by
  unfold Machine.clearMismatch; dsimp only; split
  exacts [(h.setLum hk (v := { s.lum l t.address with mismatch := false }) (.inr rfl)).endLuminaire hk _ _, h]

theorem InFlight.openMismatch {s : State} (h : InFlight P l t s) (sent answered : Nat) :
    InFlight P l t (openMismatch finish l t.address sent answered s) :=
  (h.setLum hk (v := { s.lum l t.address with mismatch := true }) (.inr rfl)).within hk ((Within.refl _).raiseLuminaire _ _ _ _ _)

theorem InFlight.updateAnswered {s : State} (h : InFlight P l t s) (level : Nat) :
    InFlight P l t (updateAnswered finish l t level s) := by
  have h1 := h.answerPresence hk level
  unfold Machine.updateAnswered; dsimp only
  generalize Machine.answerPresence finish l t.address level s = u at h1
  split
  · exact (h1.setLum hk (v := { u.lum l t.address with setConfirmed := true }) (.inr rfl)).clearMismatch hk
  · have h2 := h1.setLum hk (v := { u.lum l t.address with setConfirmed := false }) (.inr rfl)
    split
    exacts [h2, (h2.openMismatch hk _ _).markLuminaire hk]

theorem InFlight.auditAnswered {s : State} (h : InFlight P l t s) (level : Nat) :
    InFlight P l t (auditAnswered finish l t level s) := by
  have h1 := h.answerPresence hk level
  unfold Machine.auditAnswered; dsimp only
  split
  · exact h1
  split
  · exact h1.clearMismatch hk
  split
  · exact h1
  · exact h1.markLuminaire hk
  split
  exacts [h1.markLuminaire hk, (h1.markLuminaire hk).openMismatch hk _ _]

theorem InFlight.moveCursor {s : State} (h : InFlight P l t s) : InFlight P l t (moveCursor l t s) := by
  unfold Machine.moveCursor; split
  exacts [h.setLine hk (fun k => k.of_same rfl rfl rfl) rfl, h]

/-! ### The end of an attempt -/

theorem Kept.attemptAnswered {s : State} (h : InFlight P l t s) (level : Nat) :
    P (attemptAnswered finish l t level s) := by
  unfold Machine.attemptAnswered; dsimp only; split
  · exact hk.endTransaction ((h.updateAnswered hk level).moveCursor hk)
  · exact hk.endTransaction ((h.auditAnswered hk level).moveCursor hk)

theorem Kept.endDeferred {s : State} (h : InFlight P l t s) :
    P (Machine.endTransaction l t.address (deferAttempt l t s)) := by
  unfold deferAttempt; dsimp only; split
  · next hp =>
    split
    · exact hk.endWritten h.kept fun k => k.deferred h.flight hp
    · exact hk.endTransaction h
  · exact hk.endTransaction (h.setLine hk (fun k => k.of_same rfl rfl rfl) rfl)

theorem Kept.attemptUnanswered {s : State} (h : InFlight P l t s) : P (attemptUnanswered finish l t s) := by
  unfold Machine.attemptUnanswered
  split
  · split
    · exact hk.endDeferred h
    · exact hk.line l _ (fun k => k.again h.flight) h.kept
  · exact hk.missing l t h.flight h.kept

end

end Sys2Proof.Machine
end

section
/-! SUPPORT. The rows and the step under `Kept`. -/

namespace Sys2Proof.Machine

open Sys2Proof

/-- The head and the command of the frame that a row carries, when the row is a host command. -/
def Instr.hosted : Instr → Option (FrameHead × Command)
  | .configureZone head p => some (head, .configureZone p)
  | .configureBay head p => some (head, .configureBay p)
  | .configureSensor head channel p => some (head, .configureSensor channel p)
  | .configureSensorAll head p => some (head, .configureSensorAll p)
  | .configureLuminaire head p => some (head, .configureLuminaire p)
  | .setResponse head p => some (head, .setResponse p)
  | .setLink head threshold audit => some (head, .setLink threshold audit)
  | .enable head target => some (head, .enable target)
  | .disable head target => some (head, .disable target)
  | .request head p => some (head, .request p)
  | .release head identity => some (head, .release identity)
  | .clearFault head target => some (head, .clearFault target)
  | .watch head target setting => some (head, .watch target setting)
  | .calibrate head first last settle => some (head, .calibrate first last settle)
  | .stopShadesNow head => some (head, .stopShadesNow)
  | .stopSweepNow head => some (head, .stopSweepNow)
  | .stopSweepAfterZone head => some (head, .stopSweepAfterZone)
  | .shadeHome head bay => some (head, .shadeHome bay)
  | .busHold head line => some (head, .busHold line)
  | .busRelease head line => some (head, .busRelease line)
  | .queryTarget head index => some (head, .queryTarget index)
  | .queryZone head index => some (head, .queryZone index)
  | .queryBay head index => some (head, .queryBay index)
  | .querySensor head index => some (head, .querySensor index)
  | .querySensorAll head => some (head, .querySensorAll)
  | .queryLuminaire head line address => some (head, .queryLuminaire line address)
  | .queryLuminaireAll head line => some (head, .queryLuminaireAll line)
  | .queryFault head start target => some (head, .queryFault start target)
  | .queryPending head index => some (head, .queryPending index)
  | .querySweep head index => some (head, .querySweep index)
  | .resetPart head => some (head, .resetPart)
  | _ => none

theorem Instr.row_of_hosted {i : Instr} {h : FrameHead} {c : Command} (e : Instr.hosted i = some (h, c)) : i = c.row h := by
  cases i <;> cases e <;> rfl

/-- RST_N deasserted, and RESET PART, leave the other blocks as the reset of the part does (R198). -/
theorem resetBlocks_eq (s : State) : resetBlocks s = ({ resetBlocks s with link := s.link } : State).setLink .reset := rfl

@[simp] theorem tickTimer_isSome (t : Timer) : (tickTimer t).isSome = t.isSome := by cases t <;> rfl

theorem LinkPort.Sound.tick {r : LinkPort} (h : r.Sound) : r.tick.Sound :=
  ⟨h.reports, h.inbound, h.threshold, h.audit, h.receiver, by
    simpa only [LinkPort.tick, tickTimer_isSome] using h.gap⟩

section
variable {P : State → Prop} (hk : Kept P)
include hk

/-! ### The end of an event -/

theorem Kept.pump : (n : Nat) → {s : State} → P s → P (pump n s)
  | 0, _, h => h
  | n + 1, s, h => by
    unfold Machine.pump
    split
    · next e => exact Kept.pump n (hk.startFrame h e)
    · split
      · next hg =>
        have hg : GateOpen s := by simpa [gateOpen, GateOpen] using hg
        split
        · next e =>
          obtain ⟨h1, hr⟩ := hk.chooseFrame h e
          exact Kept.pump n (hk.testLines (hk.takeFrame h1 (by rwa [GateOpen, hr]) _))
        · exact h
      · exact h

theorem Kept.settle {s : State} (h : P s) : P (settle s) := hk.pump _ (hk.testLines h)

/-- A row of the part in operation keeps what its body keeps. -/
theorem Kept.operate {body : State → State} {s t : State} (h : P s) (hb : P s → P (body s))
    (e : operate body s = .next t) : P t := by
  unfold Machine.operate at e
  split at e
  · cases e; exact h
  · cases e; exact hk.settle (hb h)

theorem Kept.hostCommand {f : Frame} {take : State → State} {s t : State} (h : P s) (hb : GateOpen s → P (take s))
    (e : hostCommand f take s = .next t) : P t := by
  refine hk.operate h (fun _ => ?_) e
  split
  · next hd =>
    refine hb ?_
    simp only [decoderReady, Bool.and_eq_true] at hd
    simpa [gateOpen, GateOpen] using hd.1.1
  · exact hk.routeFrame h f

/-- A row that carries a host command. -/
theorem Kept.row {s t : State} (h : P s) (head : FrameHead) (c : Command) (e : exec (c.row head) s = .next t) : P t :=
  hk.hostCommand h (fun hg => hk.runCommand h hg _ _) ((exec_row head c s).symm.trans e)

/-! ### The rows of the pins and the link -/

theorem Kept.resetBlocks {s : State} (h : P s) : P (resetBlocks s) := by
  rw [resetBlocks_eq]
  exact hk.link (s := { Machine.resetBlocks s with link := s.link }) _ (fun _ => LinkPort.reset_sound) (hk.reset h)

theorem Kept.started {s : State} (h : P s) (cause : StartCause) : P (enterStarted cause none (Machine.resetBlocks s)) := by
  refine hk.link _ (fun k => ?_) (hk.resetBlocks h)
  exact k.of_stores rfl rfl fun _ => show 1 ≤ 64 by decide

theorem Kept.rstNAsserted {s t : State} (h : P s) (e : execRstNAsserted s = .next t) : P t := by
  cases e
  exact hk.resetBlocks (s := { s with rstAsserted := true }) (hk.floor (s := s) rfl rfl rfl rfl rfl rfl h)

theorem Kept.rstNDeasserted {s t : State} (h : P s) (e : execRstNDeasserted s = .next t) : P t := by
  unfold execRstNDeasserted at e
  split at e
  · cases e; exact hk.settle (hk.started (s := { s with rstAsserted := false }) (hk.floor (s := s) rfl rfl rfl rfl rfl rfl h) .pin)
  · cases e; exact h

theorem Kept.frameReceived {s t : State} {body : List Byte} {check : Half} (h : P s)
    (e : execFrameReceived body check s = .next t) : P t := by
  refine hk.operate h (fun h => ?_) e
  split
  exacts [hk.completeFrame h _ _, hk.discardFrame h]

theorem Kept.gapTimerExpiry {s t : State} (h : P s) (e : execGapTimerExpiry s = .next t) : P t := by
  refine hk.operate h (fun h => ?_) e
  split
  exacts [hk.discardFrame h, h]

theorem Kept.hrdyAsserted {s t : State} (h : P s) (e : execHrdyAsserted s = .next t) : P t :=
  hk.operate (s := { s with hrdy := true }) (hk.ready _ h) id e

theorem Kept.hrdyDeasserted {s t : State} (h : P s) (e : execHrdyDeasserted s = .next t) : P t :=
  hk.operate (s := { s with hrdy := false }) (hk.ready _ h) id e

theorem Kept.transmitStart {s t : State} (h : P s) (e : execTransmitStart s = .next t) : P t := by
  refine hk.operate h (fun h => ?_) e
  split
  · next hs => exact hk.startFrame h hs
  · exact h

theorem Kept.frameSent {s t : State} (h : P s) (e : execFrameSent s = .next t) : P t :=
  hk.operate h (hk.link { s.link with sending := none } fun k => k.of_stores rfl rfl) e

theorem Kept.secondsCounterTick {s t : State} (h : P s) (e : execSecondsCounterTick s = .next t) : P t :=
  hk.operate h (fun h => hk.floor (s := s) rfl rfl rfl rfl rfl rfl h) e

/-! ### The rows of the sensor line -/

theorem Kept.startScan {s : State} (h : P s) : P (startScan s) := hk.setPoll h _

theorem Kept.scanTimerExpiry {s t : State} (h : P s) (e : execScanTimerExpiry s = .next t) : P t := by
  refine hk.operate h (fun h => ?_) e
  have h1 : P (s.setScanner { s.scanner with scanTimer := some s.scanner.interval }) := hk.scanner _ id h
  dsimp only; split
  exacts [hk.startScan h1, hk.scanner _ id h1]

theorem Kept.sensorAnswer {s t : State} {channel : Byte} {raw : Half} {arrival : Arrival} (h : P s)
    (e : execSensorAnswer channel raw arrival s = .next t) : P t := by
  refine hk.operate h (fun h => ?_) e
  split
  exacts [h, hk.endExchange h _, hk.endExchange h _]

/-! ### The rows of the zones, the bays and the requests -/

omit hk in
theorem Within.takeRampTick (s : State) (z : ZoneId) : Within s (takeRampTick z s) := by
  have h1 : Within s (Machine.putZone z (s.zone z).rampTick s) := (Within.refl s).putZone _ _ (Zone.rampTick_cfg _)
  unfold Machine.takeRampTick; dsimp only
  repeat' split
  exacts [.refl s, h1, h1.reportFallback finish_stays z]

omit hk in
theorem Within.takeHoldExpiry (s : State) (identity : Nat) : Within s (takeHoldExpiry identity s) := by
  unfold Machine.takeHoldExpiry
  repeat' split
  exacts [.refl s, .refl s, finish_within (((Within.refl s).removeContexts _ _).contextNotice _ _ _ |>.offer _) _ _]

omit hk in
theorem Within.takeWaitExpiry (s : State) (identity : Nat) : Within s (takeWaitExpiry identity s) := by
  unfold Machine.takeWaitExpiry; split
  exacts [((Within.refl s).dropEntry _).entryNotice _ _, .refl s]

theorem Kept.readingTimerExpiry {s t : State} {z : ZoneId} (h : P s) (e : execReadingTimerExpiry z s = .next t) : P t := by
  refine hk.operate h (fun h => ?_) e
  dsimp only; split
  exacts [hk.offerReading (hk.setZone h _ _) _, h]

theorem Kept.settleTimerExpiry {s t : State} {z : ZoneId} (h : P s) (e : execSettleTimerExpiry z s = .next t) :
    P t := by
  refine hk.operate h (fun h => ?_) e
  split
  exacts [hk.setZone h _ _, h]

theorem Kept.glareHoldExpiry {s t : State} {b : BayId} (h : P s) (e : execGlareHoldExpiry b s = .next t) : P t := by
  refine hk.operate h (fun h => ?_) e
  split
  exacts [hk.within ((Within.refl _).putGlare finish_stays _ _ _) h, h]

/-! ### The rows of the drives -/

omit hk in
theorem Within.endEnergising (s : State) (b : BayId) : Within s (endEnergising b s) := by
  unfold Machine.endEnergising; dsimp only
  repeat' split
  exacts [.refl s, (Within.refl s).enterHolding _, (Within.refl s).startMovement finish_stays _ _]

omit hk in
theorem Within.endHolding (s : State) (b : BayId) : Within s (endHolding b s) := by
  unfold Machine.endHolding; split
  exacts [.refl s, (((Within.refl s).setDrive _ _).releasePower _).enterIdle _]

omit hk in
theorem Within.powerTimeout (s : State) (b : BayId) : Within s (powerTimeout b s) := by
  unfold Machine.powerTimeout; dsimp only; split
  exacts [.refl s, (((Within.refl s).leaveQueue _).setDrive _ _).raiseFault finish_stays _ _]

theorem Kept.setInputs {s : State} (h : P s) (b : BayId) (home : Bool) (mark : Option (Fin 15)) :
    P (setInputs b home mark s) := hk.floor (s := s) rfl rfl rfl rfl rfl rfl h

/-! ### The rows of the luminaire lines -/

theorem Kept.luminaireAnswer {s t : State} {l : LineId} {level : Half} {arrival : Arrival} (h : P s)
    (e : execLuminaireAnswer l level arrival s = .next t) : P t := by
  refine hk.operate h (fun h => ?_) e
  split
  · next ht =>
    split
    exacts [hk.attemptAnswered ⟨h, ht⟩ _, hk.attemptUnanswered ⟨h, ht⟩]
  · next ht => exact hk.attemptUnanswered ⟨h, ht⟩
  · exact h

theorem Kept.luminaireAnswerTimeout {s t : State} {l : LineId} (h : P s)
    (e : execLuminaireAnswerTimeout l s = .next t) : P t := by
  refine hk.operate h (fun h => ?_) e
  split
  · exact h
  · next ht => exact hk.attemptUnanswered ⟨h, ht⟩

theorem Kept.auditTimerExpiry {s t : State} {l : LineId} (h : P s) (e : execAuditTimerExpiry l s = .next t) : P t :=
  hk.operate h (hk.line l { s.line l with auditTimer := startSeconds s.link.auditInterval, auditOwed := true } fun k =>
    k.of_same rfl rfl rfl) e

omit hk in
theorem Within.takePhaseExpiry (s : State) : Within s (takePhaseExpiry s) := by
  unfold Machine.takePhaseExpiry; split
  exacts [(Within.refl s).beginRead finish_stays _ _, (Within.refl s).beginRead finish_stays _ _, .refl s]

/-! ### The step -/

theorem Kept.exec {s t : State} (h : P s) (i : Instr) (e : exec i s = .next t) : P t := by
  rcases hi : Instr.hosted i with _ | ⟨head, c⟩
  case some => exact hk.row h head c (Instr.row_of_hosted hi ▸ e)
  cases i with
  | unknownKind head code payload => exact hk.hostCommand h (fun hg => hk.reply h hg _ _ _) e
  | rstNAsserted => exact hk.rstNAsserted h e
  | rstNDeasserted => exact hk.rstNDeasserted h e
  | frameReceived body check => exact hk.frameReceived h e
  | gapTimerExpiry => exact hk.gapTimerExpiry h e
  | hrdyAsserted => exact hk.hrdyAsserted h e
  | hrdyDeasserted => exact hk.hrdyDeasserted h e
  | transmitStart => exact hk.transmitStart h e
  | frameSent => exact hk.frameSent h e
  | scanTimerExpiry => exact hk.scanTimerExpiry h e
  | owedScanStart => exact hk.operate h hk.startOwedScan e
  | sensorAnswer channel raw arrival => exact hk.sensorAnswer h e
  | sensorAnswerTimeout => exact hk.operate h (fun h => hk.endExchange h none) e
  | rampTick z => exact hk.operate h (hk.within (Within.takeRampTick s z)) e
  | settleTimerExpiry z => exact hk.settleTimerExpiry h e
  | readingTimerExpiry z => exact hk.readingTimerExpiry h e
  | glareHoldExpiry b => exact hk.glareHoldExpiry h e
  | holdExpiry identity => exact hk.operate h (hk.within (Within.takeHoldExpiry s _)) e
  | waitExpiry identity => exact hk.operate h (hk.within (Within.takeWaitExpiry s _)) e
  | stepEvent b home mark =>
    exact hk.operate (hk.setInputs h b home mark) (hk.within ((Within.refl _).stepEvent finish_stays b)) e
  | energiseTimerExpiry b home mark =>
    exact hk.operate (hk.setInputs h b home mark) (hk.within (Within.endEnergising _ b)) e
  | driveHoldTimerExpiry b => exact hk.operate h (hk.within (Within.endHolding s b)) e
  | powerWaitTimeout b => exact hk.operate h (hk.within (Within.powerTimeout s b)) e
  | luminaireAnswer l level arrival => exact hk.luminaireAnswer h e
  | luminaireAnswerTimeout l => exact hk.luminaireAnswerTimeout h e
  | auditTimerExpiry l => exact hk.auditTimerExpiry h e
  | updateTransactionStart l => exact hk.operate h (hk.startUpdate · l) e
  | audit l => exact hk.operate h (hk.startAudit · l) e
  | phaseTimerExpiry => exact hk.operate h (hk.within (Within.takePhaseExpiry s)) e
  | secondsCounterTick => exact hk.secondsCounterTick h e
  | byteTaken b good => exact hk.operate h (hk.receiveByte · b good) e
  | _ => cases hi

/-- The passing of a millisecond counts timers alone. -/
theorem Kept.tickAll {s : State} (h : P s) : P (tickAll s) := by
  have h1 := hk.link s.link.tick LinkPort.Sound.tick h
  have h2 := hk.scanner (s := s.setLink s.link.tick) s.scanner.tick id h1
  have h3 := hk.line (s := (s.setLink s.link.tick).setScanner s.scanner.tick) .l0 s.lineL0.tick (fun k => k.of_same rfl rfl rfl) h2
  have h4 := hk.line (s := State.setLine _ _ _) .l1 s.lineL1.tick (fun k => k.of_same rfl rfl rfl) h3
  exact hk.floor (s := State.setLine _ _ _) rfl rfl rfl rfl rfl rfl h4

/-- Every step keeps the condition. -/
theorem Kept.step {s t : State} (h : P s) (e : step s = .next t) : P t := by
  unfold Machine.step at e
  split at e
  · cases e
    unfold idle; split
    exacts [h, hk.tickAll h]
  · next c rest _ => exact hk.exec (s := { s with pending := rest }) (hk.floor (s := s) rfl rfl rfl rfl rfl rfl h) c e

end

end Sys2Proof.Machine
end

section
/-! PROOF. The link, the lines and the Scanner stay sound (O7, O8, O9): each condition is kept by the writes of `Kept`. -/

namespace Sys2Proof.Machine

open Sys2Proof

/-! ### The link -/

theorem LinkPort.Sound.within {s t : State} (w : Within s t) (h : s.link.Sound) : t.link.Sound where
  reports := w.bounded h.reports
  inbound := w.inbound ▸ h.inbound
  threshold := w.threshold ▸ h.threshold
  audit := w.auditInterval ▸ h.audit
  receiver := w.receiver ▸ h.receiver
  gap := by rw [w.gapTimer, w.receiver]; exact h.gap

/-- A second unanswered attempt of an update leaves its SET unconfirmed (R156). -/
def unconfirmed (l : LineId) (t : Transaction) (s : State) : State :=
  if t.purpose = .update then s.setLum l t.address { s.lum l t.address with setConfirmed := false } else s

theorem foundMissing_eq (fin : Finisher) (l : LineId) (t : Transaction) (s : State) : foundMissing fin l t s =
    if ((unconfirmed l t s).lum l t.address).presence = .missing then
      if t.purpose = .update then redirty l t.address (unconfirmed l t s) else unconfirmed l t s
    else redirty l t.address (raiseLuminaire fin l t.address .luminaireMissing t.value
      (match t.cmd with | .set => 1 | .query => 2) ((unconfirmed l t s).setLum l t.address
        { (unconfirmed l t s).lum l t.address with presence := .missing })) := rfl

/-- Finding a luminaire MISSING writes its record, and raises. -/
theorem foundMissing_keeps {Q : State → Prop} {l : LineId} {t : Transaction} (within : ∀ {s u}, Within s u → Q s → Q u)
    (lum : ∀ {s : State} (v : Luminaire), Q s → Q (s.setLum l t.address v)) {s : State} (h : Q s) :
    Q (foundMissing finish l t s) := by
  have h1 : Q (unconfirmed l t s) := by
    unfold unconfirmed; split
    exacts [lum _ h, h]
  rw [foundMissing_eq]
  generalize unconfirmed l t s = u at h1
  split
  · split
    exacts [lum _ h1, h1]
  · exact lum _ (within ((Within.refl _).raiseLuminaire _ _ _ _ _) (lum _ h1))

/-- A condition that reads nothing of the lines is kept by the end of an update whose luminaire is found MISSING. -/
theorem missing_kept {P : State → Prop} (within : ∀ {s t}, Within s t → P s → P t)
    (line : ∀ {s : State} (l : LineId) (r : Line), P s → P (s.setLine l r)) {s : State} (l : LineId) (t : Transaction)
    (h : P s) : P (endTransaction l t.address (moveCursor l t (foundMissing finish l t s))) := by
  have found : P (foundMissing finish l t s) := foundMissing_keeps within (fun _ hu => line l _ hu) h
  have moved : P (moveCursor l t (foundMissing finish l t s)) := by
    unfold moveCursor; split
    exacts [line l _ found, found]
  rw [endTransaction_eq]; split
  · exact within ((Within.refl _).offerNotice _) (line l _ moved)
  · exact line l _ moved

theorem link_kept : Kept fun s => s.link.Sound where
  within := LinkPort.Sound.within
  floor _ e _ _ _ _ h := by rw [e]; exact h
  answer _ a h := a.sound h
  link _ hr h := hr h
  ready _ h := h
  scanner _ _ h := h
  channel _ _ _ h := h
  line l _ _ h := by cases l <;> exact h
  reset h := h
  missing l t _ h := missing_kept LinkPort.Sound.within (fun l _ h => by cases l <;> exact h) l t h

/-- Settles O7: the link stores are written within their bounds by every event. -/
theorem linkStaysSound : Obligations.LinkStaysSound := fun _ _ h e => link_kept.step h e

/-! ### The Scanner -/

theorem ScannerSound.within {s t : State} (w : Within s t) (h : ScannerSound s) : ScannerSound t := by
  refine ⟨by rw [w.scanner]; exact h.1, fun c => ?_⟩
  rw [State.channel, w.channels]; exact h.2 c

theorem State.channel_reset (c : ChannelId) : State.reset.channel c = Channel.reset := by
  simp [State.channel, State.reset, Vector.get]

theorem ScannerSound.of_reset : ScannerSound State.reset :=
  ⟨by decide, fun c => State.channel_reset c ▸ Channel.reset_sound⟩

theorem ScannerSound.reset {s : State} : ScannerSound ({ resetBlocks s with link := s.link } : State) :=
  ScannerSound.of_reset

theorem scanner_kept : Kept ScannerSound where
  within := ScannerSound.within
  floor _ _ hs hc _ _ h := by
    refine ⟨by rw [hs]; exact h.1, fun c => ?_⟩
    rw [State.channel, hc]; exact h.2 c
  answer _ _ h := h
  link _ _ h := h
  ready _ h := h
  scanner _ hk h := ⟨hk h.1, h.2⟩
  channel {s} c r hr h := by
    refine ⟨h.1, fun d => ?_⟩
    by_cases e : d = c
    · subst e; rw [State.channel_setChannel_same]; exact hr (h.2 d)
    · rw [State.channel_setChannel_other _ _ _ _ e]; exact h.2 d
  line l _ _ h := by cases l <;> exact h
  reset _ := ScannerSound.reset
  missing l t _ h := missing_kept ScannerSound.within (fun l _ h => by cases l <;> exact h) l t h

/-- Settles O9: a channel record is written with values in their ranges, and with a filtered value exactly when VALID. -/
theorem scannerStaysSound : Obligations.ScannerStaysSound := fun _ _ h e => scanner_kept.step h e

/-! ### The lines -/

theorem linesSound_iff {s : State} : LinesSound s ↔ ∀ l, (s.line l).Sound :=
  ⟨fun h l => by cases l; exacts [h.1, h.2], fun h => ⟨h .l0, h .l1⟩⟩

theorem LinesSound.within {s t : State} (w : Within s t) (h : LinesSound s) : LinesSound t :=
  linesSound_iff.2 fun l => (linesSound_iff.1 h l).of_engine (w.engine l) (w.listed l (linesSound_iff.1 h l).list)

theorem LinesSound.setLine {s : State} {l : LineId} {r : Line} (hr : r.Sound) (h : ∀ m, m ≠ l → (s.line m).Sound) :
    LinesSound (s.setLine l r) := by
  refine linesSound_iff.2 fun m => ?_
  by_cases e : m = l
  · subst e; rw [State.line_setLine_same]; exact hr
  · rw [State.line_setLine_other _ _ _ _ e]; exact h m e

/-- The lines while line `l` may hold an update of a luminaire just found MISSING: its list is right with its luminaire in
flight, and the other line is sound. -/
structure Missing (l : LineId) (t : Transaction) (s : State) : Prop where
  listed : (s.line l).Listed
  flight : (s.line l).transaction = some t
  others : ∀ m, m ≠ l → (s.line m).Sound

theorem Missing.within {l : LineId} {t : Transaction} {s u : State} (w : Within s u) (h : Missing l t s) : Missing l t u :=
  ⟨w.listed l h.listed, (w.flight l).trans h.flight, fun m e =>
    (h.others m e).of_engine (w.engine m) (w.listed m (h.others m e).list)⟩

theorem Missing.setLine {l : LineId} {t : Transaction} {s : State} (h : Missing l t s) {r : Line} (hl : r.Listed)
    (ht : r.transaction = some t) : Missing l t (s.setLine l r) :=
  ⟨by rwa [State.line_setLine_same], by rwa [State.line_setLine_same], fun m e => by
    rw [State.line_setLine_other _ _ _ _ e]; exact h.others m e⟩

theorem Missing.setLum {l : LineId} {t : Transaction} {s : State} (h : Missing l t s) (v : Luminaire) :
    Missing l t (s.setLum l t.address v) :=
  h.setLine (h.listed.setLum_inFlight h.flight v) h.flight

theorem Missing.foundMissing {l : LineId} {t : Transaction} {s : State} (h : Missing l t s) :
    Missing l t (foundMissing finish l t s) :=
  foundMissing_keeps Missing.within (fun v k => k.setLum v) h

theorem Missing.moveCursor {l : LineId} {t : Transaction} {s : State} (h : Missing l t s) :
    Missing l t (moveCursor l t s) := by
  unfold Machine.moveCursor; split
  exacts [h.setLine ⟨h.listed.nodup, h.listed.listed⟩ h.flight, h]

theorem Missing.endTransaction {l : LineId} {t : Transaction} {s : State} (h : Missing l t s) :
    LinesSound (endTransaction l t.address s) := by
  have ended := h.listed.end_sound h.flight
  rw [endTransaction_eq]; split
  · exact LinesSound.within ((Within.refl _).offerNotice _) (.setLine (ended.of_same rfl rfl rfl) h.others)
  · exact .setLine ended h.others

theorem LinesSound.reset {s : State} : LinesSound ({ resetBlocks s with link := s.link } : State) :=
  ⟨Line.reset_sound, Line.reset_sound⟩

theorem lines_kept : Kept LinesSound where
  within := LinesSound.within
  floor _ _ _ _ h0 h1 h := by rw [LinesSound, h0, h1]; exact h
  answer _ _ h := h
  link _ _ h := h
  ready _ h := h
  scanner _ _ h := h
  channel _ _ _ h := h
  line l _ hr h := .setLine (hr (linesSound_iff.1 h l)) fun m _ => linesSound_iff.1 h m
  reset _ := LinesSound.reset
  missing l t ht h :=
    Missing.endTransaction (Missing.moveCursor (Missing.foundMissing
      ⟨(linesSound_iff.1 h l).list, ht, fun m _ => linesSound_iff.1 h m⟩))

/-- Settles O8: a luminaire enters a line's list when it is marked or its transaction ends, and leaves it as its transaction
starts. -/
theorem linesStaySound : Obligations.LinesStaySound := fun _ _ h e => lines_kept.step h e

end Sys2Proof.Machine
end

section
/-! PROOF. Steps, reset and the frames (O1 to O6, O10 to O13). -/

namespace Sys2Proof.Machine

open Sys2Proof

/-! ### Steps -/

/-- Settles O1: `step` matches on the queue. -/
theorem stepRunsFrontCommand : Obligations.StepRunsFrontCommand := fun _ _ _ => rfl

/-- A running timer has one millisecond less, down to one; a stopped timer stays stopped. -/
theorem tickTimer_eq_map : tickTimer = Option.map fun ms : Nat => max 1 (ms - 1) := by
  funext t; cases t <;> rfl

theorem zoneTick_eq : Zone.tick = fun r : Zone => { r with
    settleTimer := tickTimer r.settleTimer, readingTimer := tickTimer r.readingTimer
    rampTimer := tickTimer r.rampTimer } := rfl

theorem bayTick_eq : Bay.tick = fun r : Bay => { r with glareTimer := tickTimer r.glareTimer } := rfl

theorem targetTick_eq : Target.tick = fun r : Target =>
    { r with above := r.above.map fun c => { c with hold := tickTimer c.hold } } := rfl

theorem driveTick_eq : Drive.tick = fun r : Drive => { r with
    stepTimer := tickTimer r.stepTimer, energiseTimer := tickTimer r.energiseTimer
    holdTimer := tickTimer r.holdTimer, waitTimer := tickTimer r.waitTimer } := rfl

/-- Settles O2: on an empty queue `step` is `idle`, and a timer's millisecond is the map that the statement names. -/
theorem stepOnEmptyQueuePassesOneMillisecond : Obligations.StepOnEmptyQueuePassesOneMillisecond := by
  intro s hp
  have hs : step s = .next (idle s) := by unfold step; rw [hp]
  refine ⟨fun hr => ?_, fun ho less hl => ?_⟩
  · rw [hs, idle, if_pos hr]
  · have ho : s.rstAsserted = false := ho
    rw [hs, idle, if_neg (by simp [ho])]
    subst hl
    simp only [tickAll, LinkPort.tick, Scanner.tick, Line.tick, zoneTick_eq, bayTick_eq,
      targetTick_eq, driveTick_eq, tickTimer_eq_map]

/-- Every row but those of the pins, and of the drives that show the levels of HOME and MARK, acts on the part in operation. -/
theorem exec_operates (c : Instr) (s : State) : (∃ body, exec c s = operate body s) ∨ c = .rstNAsserted ∨
    c = .rstNDeasserted ∨ c = .hrdyAsserted ∨ c = .hrdyDeasserted ∨ (∃ b home mark, c = .stepEvent b home mark) ∨
    ∃ b home mark, c = .energiseTimerExpiry b home mark := by
  rcases hc : Instr.hosted c with _ | ⟨h, d⟩
  case some => rw [Instr.row_of_hosted hc, exec_row, hostCommand]; exact .inl ⟨_, rfl⟩
  cases c with
  | rstNAsserted | rstNDeasserted | hrdyAsserted | hrdyDeasserted | stepEvent | energiseTimerExpiry => simp
  | unknownKind h code payload => rw [exec_unknownKind, execUnknownKind, hostCommand]; exact .inl ⟨_, rfl⟩
  | frameReceived body check => rw [exec_frameReceived, execFrameReceived]; exact .inl ⟨_, rfl⟩
  | gapTimerExpiry => rw [exec_gapTimerExpiry, execGapTimerExpiry]; exact .inl ⟨_, rfl⟩
  | transmitStart => rw [exec_transmitStart, execTransmitStart]; exact .inl ⟨_, rfl⟩
  | frameSent => rw [exec_frameSent, execFrameSent]; exact .inl ⟨_, rfl⟩
  | scanTimerExpiry => rw [exec_scanTimerExpiry, execScanTimerExpiry]; exact .inl ⟨_, rfl⟩
  | owedScanStart => rw [exec_owedScanStart, execOwedScanStart]; exact .inl ⟨_, rfl⟩
  | sensorAnswer channel raw arrival => rw [exec_sensorAnswer, execSensorAnswer]; exact .inl ⟨_, rfl⟩
  | sensorAnswerTimeout => rw [exec_sensorAnswerTimeout, execSensorAnswerTimeout]; exact .inl ⟨_, rfl⟩
  | rampTick z => rw [exec_rampTick, execRampTick]; exact .inl ⟨_, rfl⟩
  | settleTimerExpiry z => rw [exec_settleTimerExpiry, execSettleTimerExpiry]; exact .inl ⟨_, rfl⟩
  | readingTimerExpiry z => rw [exec_readingTimerExpiry, execReadingTimerExpiry]; exact .inl ⟨_, rfl⟩
  | glareHoldExpiry b => rw [exec_glareHoldExpiry, execGlareHoldExpiry]; exact .inl ⟨_, rfl⟩
  | holdExpiry identity => rw [exec_holdExpiry, execHoldExpiry]; exact .inl ⟨_, rfl⟩
  | waitExpiry identity => rw [exec_waitExpiry, execWaitExpiry]; exact .inl ⟨_, rfl⟩
  | driveHoldTimerExpiry b => rw [exec_driveHoldTimerExpiry, execDriveHoldTimerExpiry]; exact .inl ⟨_, rfl⟩
  | powerWaitTimeout b => rw [exec_powerWaitTimeout, execPowerWaitTimeout]; exact .inl ⟨_, rfl⟩
  | luminaireAnswer l level arrival => rw [exec_luminaireAnswer, execLuminaireAnswer]; exact .inl ⟨_, rfl⟩
  | luminaireAnswerTimeout l => rw [exec_luminaireAnswerTimeout, execLuminaireAnswerTimeout]; exact .inl ⟨_, rfl⟩
  | auditTimerExpiry l => rw [exec_auditTimerExpiry, execAuditTimerExpiry]; exact .inl ⟨_, rfl⟩
  | updateTransactionStart l => rw [exec_updateTransactionStart, execUpdateTransactionStart]; exact .inl ⟨_, rfl⟩
  | audit l => rw [exec_audit, execAudit]; exact .inl ⟨_, rfl⟩
  | phaseTimerExpiry => rw [exec_phaseTimerExpiry, execPhaseTimerExpiry]; exact .inl ⟨_, rfl⟩
  | secondsCounterTick => rw [exec_secondsCounterTick, execSecondsCounterTick]; exact .inl ⟨_, rfl⟩
  | byteTaken b good => rw [exec_byteTaken, execByteTaken]; exact .inl ⟨_, rfl⟩
  | _ => cases hc

/-- Settles O3: every row ends in `operate`, or is a row of RST_N. -/
theorem everyCommandAnswersNext : Obligations.EveryCommandAnswersNext := by
  intro c s
  rcases exec_operates c s with ⟨body, e⟩ | rfl | rfl | rfl | rfl | ⟨b, home, mark, rfl⟩ | ⟨b, home, mark, rfl⟩
  · rw [e]; exact operate_next _ _
  · exact ⟨_, rfl⟩
  · rw [exec_rstNDeasserted, execRstNDeasserted]; split <;> exact ⟨_, rfl⟩
  · rw [exec_hrdyAsserted]; exact operate_next _ _
  · rw [exec_hrdyDeasserted]; exact operate_next _ _
  · rw [exec_stepEvent]; exact operate_next _ _
  · rw [exec_energiseTimerExpiry]; exact operate_next _ _

/-- Settles O4: `operate` leaves a part that is held in reset as it is. -/
theorem heldWhileResetIsAsserted : Obligations.HeldWhileResetIsAsserted := by
  intro c s hr h1 h2 h3 h4 h5 h6
  rcases exec_operates c s with ⟨body, e⟩ | e | e | e | e | ⟨b, home, mark, e⟩ | ⟨b, home, mark, e⟩
  · rw [e, operate_of_held hr]
  · exact absurd e h1
  · exact absurd e h2
  · exact absurd e h3
  · exact absurd e h4
  · exact absurd e (h5 _ _ _)
  · exact absurd e (h6 _ _ _)

/-! ### Reset -/

theorem State.target_reset (t : TargetId) :
    State.reset.target t = Target.reset (if t.val < 48 then none else some 0) := by
  have h : State.reset.target t = (Vector.replicate 48 (Target.reset none) ++ Vector.replicate 16 (Target.reset (some 0)))[t.val] :=
    Vector.get_eq_getElem _ _
  rw [h, Vector.getElem_append]
  split <;> simp

theorem State.zone_reset (z : ZoneId) : State.reset.zone z = Zone.reset := by simp [State.zone, State.reset, Vector.get]

theorem State.bay_reset (b : BayId) : State.reset.bay b = Bay.reset := by simp [State.bay, State.reset, Vector.get]

theorem State.drive_reset (b : BayId) : State.reset.drive b = Drive.reset := by simp [State.drive, State.reset, Vector.get]

theorem State.line_reset (l : LineId) : State.reset.line l = Line.reset := by cases l <;> rfl

theorem State.lum_reset (l : LineId) (a : Address) : State.reset.lum l a = Luminaire.reset := by
  rw [State.lum, State.line_reset]; simp [Line.reset, Vector.get]

/-- Settles O5: each table of the reset part holds one record, and the records are those of the manual. -/
theorem resetLeavesTheStatedValues : Obligations.ResetLeavesTheStatedValues := by
  refine ⟨fun t => ?_, fun z => ?_, fun b => ?_, fun c => ?_, rfl, fun z => ?_, fun b => ?_, fun c => ?_, fun b => ?_,
    fun l => ?_, State.lum_reset, rfl, rfl, rfl, rfl, rfl, rfl, rfl, rfl, rfl, rfl, rfl, rfl, rfl, ?_,
    ⟨Line.reset_sound, Line.reset_sound⟩, ScannerSound.of_reset⟩
  · rw [State.target_reset]; exact ⟨rfl, rfl, rfl, rfl, rfl⟩
  · rw [State.target_reset]; simp [zoneTarget, Target.reset]
  · rw [State.target_reset]; simp [shadeTarget, Target.reset]
  · cases c <;> exact ⟨rfl, rfl⟩
  · rw [State.zone_reset]; exact ⟨rfl, rfl, rfl, rfl, rfl, rfl, rfl, rfl⟩
  · rw [State.bay_reset]; exact ⟨rfl, rfl, rfl, rfl, rfl⟩
  · rw [State.channel_reset]; exact ⟨rfl, rfl, rfl, rfl, rfl⟩
  · rw [State.drive_reset]; exact ⟨rfl, rfl, rfl⟩
  · rw [State.line_reset]; exact ⟨rfl, rfl, rfl, rfl, rfl, rfl⟩
  · exact ⟨show 1 ≤ 64 by decide, show 0 ≤ 16 by decide, show 16 ≤ 48 ∧ 48 ≤ 63 by decide,
      show 1 ≤ 5 ∧ 5 ≤ 60 by decide, trivial, by decide⟩

/-- Settles O6: the rows of RST_N and RESET PART write the reset state and enter STARTED. -/
theorem resetRowsLeaveResetValues : Obligations.ResetRowsLeaveResetValues := by
  intro s
  refine ⟨rfl, fun hr => ?_, fun h ht => completes_row (c := .resetPart) ht |>.trans ?_⟩
  · rw [Completes, exec_rstNDeasserted, execRstNDeasserted, if_pos hr]; rfl
  · have ho : s.rstAsserted = false := ht.1
    rw [show runCommand h.tag .resetPart s = takeResetPart h.tag s from rfl, takeResetPart_eq]
    simp only [resetBlocks, State.setLink, ho]
    rfl

/-! ### Frames -/

theorem half_hiByte_loByte (h : Half) : half (hiByte h) (loByte h) = h := by
  apply BitVec.eq_of_toNat_eq
  simp only [half, hiByte, loByte, BitVec.toNat_append, BitVec.extractLsb'_toNat]
  rw [← Nat.shiftLeft_add_eq_or_of_lt (Nat.mod_lt _ (by decide)), Nat.shiftRight_eq_div_pow, Nat.shiftLeft_eq]
  have := h.isLt
  simp only [Nat.shiftRight_zero]
  omega

/-- Settles O10: each decoder joins the bytes that its encoder split. -/
theorem decodeGivesBackEveryCommand : Obligations.DecodeGivesBackEveryCommand := by
  intro h c hw
  cases c
  case configureSensor channel p =>
    have hc : channel ≠ 255#8 := by simpa [Command.wellFormed] using hw
    simp [decodeFrame, encodeCommand, Command.code, Command.payload, sensorBytes, halfBytes, decodeConfigureSensor,
      half_hiByte_loByte, hc]
  case querySensor index =>
    have hi : index ≠ 255#16 := by simpa [Command.wellFormed] using hw
    simp [decodeFrame, encodeCommand, Command.code, Command.payload, halfBytes, decode3, decodeQuery,
      half_hiByte_loByte, hi]
  case queryLuminaire line address =>
    have ha : address ≠ 255#8 := by simpa [Command.wellFormed] using hw
    simp [decodeFrame, encodeCommand, Command.code, Command.payload, decode3, decodeQuery, ha]
  all_goals
    simp [decodeFrame, encodeCommand, Command.code, Command.payload, sensorBytes, halfBytes, decodeConfigureZone,
      decodeConfigureBay, decodeConfigureSensor, decodeConfigureLuminaire, decodeRequest, decode1, decode2, decode3,
      decodeStop, decodeQuery, half_hiByte_loByte]
  all_goals decide

end Sys2Proof.Machine
end

section
/-! PROOF. Frames, the receiver and the transmitter, and the end of an event (O11 to O18). -/

namespace Sys2Proof.Machine

open Sys2Proof

/-! ### Frames and their bytes -/

theorem kindByte_msb (urgent : Bool) (code : BitVec 7) : (kindByte urgent code).msb = urgent := by
  exact BitVec.msb_append.trans (by simp)

theorem kindByte_code (urgent : Bool) (code : BitVec 7) : (kindByte urgent code).extractLsb' 0 7 = code := by
  exact BitVec.extractLsb'_append_eq_right

theorem frameOfBody_body (f : Frame) : frameOfBody f.body = some f := by
  rw [Frame.body, frameOfBody, kindByte_msb, kindByte_code]

/-- Settles O11: the kind byte holds the urgent bit and the code, and no command's payload is longer than CONFIGURE ZONE's. -/
theorem framesSurviveTheirBytes : Obligations.FramesSurviveTheirBytes := by
  refine ⟨frameOfBody_body, fun h c => ?_, by decide +kernel⟩
  cases c <;> exact ⟨by simp [encodeCommand, Frame.body], by
    simp [encodeCommand, Frame.body, Command.payload, sensorBytes, halfBytes]⟩

/-! ### Refused frames -/

theorem decode1_of_length {f : Byte → Except DecodeError Command} {l : List Byte} (h : l.length ≠ 1) :
    decode1 f l = .error .badLength := by
  unfold decode1; split
  · exact absurd rfl h
  · rfl

theorem decode2_of_length {f : Byte → Byte → Except DecodeError Command} {l : List Byte} (h : l.length ≠ 2) :
    decode2 f l = .error .badLength := by
  unfold decode2; split
  · exact absurd rfl h
  · rfl

theorem decode3_of_length {f : Byte → Byte → Byte → Except DecodeError Command} {l : List Byte} (h : l.length ≠ 3) :
    decode3 f l = .error .badLength := by
  unfold decode3; split
  · exact absurd rfl h
  · rfl

theorem decodeConfigureZone_of_length {l : List Byte} (h : l.length ≠ 20) :
    decodeConfigureZone l = .error .badLength := by
  unfold decodeConfigureZone; split
  · exact absurd rfl h
  · rfl

theorem decodeConfigureBay_of_length {l : List Byte} (h : l.length ≠ 17) :
    decodeConfigureBay l = .error .badLength := by
  unfold decodeConfigureBay; split
  · exact absurd rfl h
  · rfl

theorem decodeConfigureSensor_of_length {l : List Byte} (h : l.length ≠ 7) :
    decodeConfigureSensor l = .error .badLength := by
  unfold decodeConfigureSensor; split
  · exact absurd rfl h
  · rfl

theorem decodeConfigureLuminaire_of_length {l : List Byte} (h : l.length ≠ 5) :
    decodeConfigureLuminaire l = .error .badLength := by
  unfold decodeConfigureLuminaire; split
  · exact absurd rfl h
  · rfl

theorem decodeRequest_of_length {l : List Byte} (h : l.length ≠ 12) : decodeRequest l = .error .badLength := by
  unfold decodeRequest; split
  · exact absurd rfl h
  · rfl

/-- The kind is checked before anything else of the frame. -/
theorem decodeFrame_of_unknown {f : Frame} (h : ¬ (1 ≤ f.code.toNat ∧ f.code.toNat ≤ 0x13)) :
    decodeFrame f = .error .unknownKind := by
  unfold decodeFrame; split
  case h_20 => rfl
  all_goals next e => exact absurd (by rw [e]; decide) h

/-- The length is checked before any field. -/
theorem decodeFrame_of_length {f : Frame} (low : 1 ≤ f.code.toNat) (high : f.code.toNat ≤ 0x13)
    (hl : f.payload.length ≠ payloadLength f.code.toNat) : decodeFrame f = .error .badLength := by
  unfold decodeFrame
  generalize f.code.toNat = n at low high hl
  interval_cases n
  exacts [decodeConfigureZone_of_length hl, decodeConfigureBay_of_length hl, decodeConfigureSensor_of_length hl,
    decodeConfigureLuminaire_of_length hl, decode3_of_length hl, decode2_of_length hl, decode1_of_length hl,
    decode1_of_length hl, decodeRequest_of_length hl, decode2_of_length hl, decode1_of_length hl, decode2_of_length hl,
    decode3_of_length hl, decode1_of_length hl, decode1_of_length hl, decode1_of_length hl, decode1_of_length hl,
    decode3_of_length hl, if_neg (by simpa [payloadLength] using hl)]

/-- Settles O12: the decoder matches on the code, then on the bytes; the row of an unknown kind is its REPLY. -/
theorem decoderRefusesKindThenLength : Obligations.DecoderRefusesKindThenLength := by
  refine ⟨fun f => ⟨decodeFrame_of_unknown, decodeFrame_of_length⟩, fun h code payload s ht => ?_⟩
  rw [Completes, exec_unknownKind, execUnknownKind, hostCommand_of_taking ht]
  rfl

/-! ### Frames that wait -/

theorem decoderReady_of_not {s : State} (h : ¬ (GateOpen s ∧ NothingInbound s)) : decoderReady s = false := by
  rw [Bool.eq_false_iff]
  intro hd
  simp only [decoderReady, gateOpen, Bool.and_eq_true, decide_eq_true_eq, Option.isNone_iff_eq_none, List.isEmpty_iff] at hd
  exact h ⟨hd.1.1, hd.1.2, hd.2⟩

/-- Settles O13: a host command that finds the Decoder busy is routed as its frame. -/
theorem hostCommandWaitsWhenNotTaken : Obligations.HostCommandWaitsWhenNotTaken := by
  intro h s ho hn
  have hd := decoderReady_of_not hn
  refine ⟨fun c => routeFrame_eq_stored _ s ▸ completes_row_waiting ho hd, fun code payload => ?_⟩
  rw [Completes, exec_unknownKind, execUnknownKind, hostCommand_of_waiting ho hd, routeFrame_eq_stored]

/-! ### Reception -/

/-- A row that acts on the part in operation completes with the effect of its body. -/
theorem completes_operate {i : Instr} {body : State → State} {s : State} (hi : exec i s = operate body s)
    (ho : Operating s) : Completes i s (body s) := by
  rw [Completes, hi, operate_of_operating ho]

/-- A row with an effect completes with whatever that effect is. -/
theorem Completes.of_eq {i : Instr} {s u v : State} (h : Completes i s u) (e : u = v) : Completes i s v := e ▸ h

theorem completeFrame_of_good {f : Frame} {body : List Byte} {check : Half} (hb : body = f.body)
    (hc : check = crc16 (BitVec.ofNat 8 body.length :: body)) (s : State) :
    completeFrame body check s = stored f (hunting s) := by
  subst hb
  rw [completeFrame, checkedBytes, if_pos hc.symm, frameOfBody_body, ← routeFrame_eq_stored, ← hunt_eq_hunting]

theorem completeFrame_of_bad {body : List Byte} {check : Half}
    (hc : check ≠ crc16 (BitVec.ofNat 8 body.length :: body)) (s : State) :
    completeFrame body check s = discarded s := by
  rw [completeFrame, checkedBytes, if_neg (Ne.symm hc), discardFrame_eq_discarded]

/-- Settles O14: the row tests the length, and the check of a frame of good length. -/
theorem frameReceivedIsRouted : Obligations.FrameReceivedIsRouted := by
  intro body check s ho
  have run := completes_operate (exec_frameReceived body check s) ho
  refine ⟨fun f hb hp hc => run.of_eq ?_, fun low high hc => run.of_eq ?_, fun hl => run.of_eq ?_⟩
  · have hl : 2 ≤ body.length ∧ body.length ≤ 50 := by
      subst hb; simp only [Frame.body, List.length_cons]; omega
    rw [if_pos hl, completeFrame_of_good hb hc]
  · rw [if_pos ⟨low, high⟩, completeFrame_of_bad hc]
  · rw [if_neg (by omega), discardFrame_eq_discarded]

section
variable {s : State} {b : Byte} {good : Bool}

theorem receiveByte_of_hunt (h : s.link.receiver = .hunt) :
    receiveByte b good s = if good = true ∧ b = 0xA5 then receiving .length s else s := by
  unfold receiveByte; rw [h]; simp [receiveOn_eq_receiving]

theorem receiveByte_of_length (h : s.link.receiver = .length) : receiveByte b true s =
    if 2 ≤ b.toNat ∧ b.toNat ≤ 50 then receiving (.body b.toNat []) s else discarded s := by
  unfold receiveByte; rw [h]; simp [receiveOn_eq_receiving, discardFrame_eq_discarded]

theorem receiveByte_of_body {n : Nat} {kept : List Byte} (h : s.link.receiver = .body n kept) :
    receiveByte b true s = if kept.length + 1 < n then receiving (.body n (kept ++ [b])) s
      else receiving (.check (kept ++ [b]) none) s := by
  unfold receiveByte; rw [h]; simp [receiveOn_eq_receiving]

theorem receiveByte_of_check {kept : List Byte} (h : s.link.receiver = .check kept none) :
    receiveByte b true s = receiving (.check kept (some b)) s := by
  unfold receiveByte; rw [h]; rfl

theorem receiveByte_of_last {kept : List Byte} {hi : Byte} (h : s.link.receiver = .check kept (some hi)) :
    receiveByte b true s = completeFrame kept (hi ++ b) s := by
  unfold receiveByte; rw [h]; rfl

/-- Outside HUNT a byte with a framing error discards the attempt. -/
theorem receiveByte_of_bad (h : s.link.receiver ≠ .hunt) : receiveByte b false s = discarded s := by
  unfold receiveByte
  rcases hr : s.link.receiver with _ | _ | ⟨n, kept⟩ | ⟨kept, _ | hi⟩
  exacts [absurd hr h, rfl, rfl, rfl, rfl]

end

/-- Settles O15: the receiver's table is `receiveByte`, one state after another. -/
theorem receiverFollowsItsTable : Obligations.ReceiverFollowsItsTable := by
  refine ⟨fun b good s ho => ?_, fun s ho hg => ?_, rfl, rfl⟩
  · have run := completes_operate (exec_byteTaken b good s) ho
    refine ⟨fun hr => ⟨fun h => run.of_eq ?_, fun h => run.of_eq ?_⟩, fun hr => ⟨?_, ?_⟩, fun n kept hr hg => ⟨?_, ?_⟩,
      fun kept hr hg => ?_, fun kept hi hr hg => ⟨fun f hk hc => ?_, fun hc => ?_⟩, fun hr hg => ?_⟩
    · rw [receiveByte_of_hunt hr, if_pos h]
    · rw [receiveByte_of_hunt hr, if_neg h]
    · rintro rfl low high; exact run.of_eq (by rw [receiveByte_of_length hr, if_pos ⟨low, high⟩])
    · rintro rfl h; exact run.of_eq (by rw [receiveByte_of_length hr, if_neg (by omega)])
    · subst hg; intro h; exact run.of_eq (by rw [receiveByte_of_body hr, if_pos h])
    · subst hg; intro h; exact run.of_eq (by rw [receiveByte_of_body hr, if_neg (by omega)])
    · subst hg; exact run.of_eq (receiveByte_of_check hr)
    · subst hg; exact run.of_eq ((receiveByte_of_last hr).trans (completeFrame_of_good hk hc s))
    · subst hg; exact run.of_eq ((receiveByte_of_last hr).trans (completeFrame_of_bad hc s))
    · subst hg; exact run.of_eq (receiveByte_of_bad hr)
  · exact (completes_operate (exec_gapTimerExpiry s) ho).of_eq (if_pos hg)

/-! ### The ready line, the seconds counter and the transmitter -/

/-- Settles O16: the counter is a word of 32 bits. -/
theorem readyLineAndSecondsCounter : Obligations.ReadyLineAndSecondsCounter := by
  intro s ho
  refine ⟨?_, ?_, { s with seconds := s.seconds + 1 }, ?_, rfl, fun h => ?_, fun h => ?_⟩
  · rw [Completes, exec_hrdyAsserted, execHrdyAsserted, operate_of_operating (s := { s with hrdy := true }) ho]
  · rw [Completes, exec_hrdyDeasserted, execHrdyDeasserted, operate_of_operating (s := { s with hrdy := false }) ho]
  · rw [Completes, exec_secondsCounterTick, execSecondsCounterTick, operate_of_operating ho]
  · show (s.seconds + 1).toNat = _
    rw [BitVec.toNat_add]; simp; omega
  · show s.seconds + 1 = 0
    apply BitVec.eq_of_toNat_eq
    rw [BitVec.toNat_add, h]; rfl

section
variable {s : State}

theorem startFrame_of_alarm {r : Record} (hr : s.hrdy = true) (hs : s.link.sending = none) (ha : s.link.alarm = some r) :
    startFrame s = some { s with link := { s.link with alarm := none, sending := some ⟨true, r⟩ } } := by
  unfold startFrame; rw [if_pos (by simp [hr, hs]), ha]; rfl

theorem startFrame_of_report {r : Record} {rest : List Record} (hr : s.hrdy = true) (hs : s.link.sending = none)
    (ha : s.link.alarm = none) (hq : s.link.reports = r :: rest) :
    startFrame s = some { s with link := { s.link with reports := rest, sending := some ⟨false, r⟩ } } := by
  unfold startFrame; rw [if_pos (by simp [hr, hs]), ha, hq]; rfl

theorem startFrame_of_empty (ha : s.link.alarm = none) (hq : s.link.reports = []) : startFrame s = none := by
  unfold startFrame; rw [ha, hq]; split <;> rfl

end

/-- The row of the transmitter carries out its test once. -/
theorem completes_transmitStart {s : State} (ho : Operating s) : Completes .transmitStart s ((startFrame s).getD s) := by
  rw [Completes, exec_transmitStart, execTransmitStart, operate_of_operating ho]
  cases startFrame s <;> rfl

/-- Settles O17: the row carries out the transmitter's test once. -/
theorem transmitterTakesAlarmsFirst : Obligations.TransmitterTakesAlarmsFirst := by
  intro s ho
  have run := completes_transmitStart ho
  have started {u : State} (h : startFrame s = some u) : Completes .transmitStart s u := by rwa [h] at run
  refine ⟨fun hr hs r ha => started (startFrame_of_alarm hr hs ha),
    fun hr hs ha r rest hq => started (startFrame_of_report hr hs ha hq), fun h => ?_, ?_⟩
  · have none : startFrame s = none := by
      rcases h with h | h | ⟨ha, hq⟩
      · exact startFrame_of_blocked (.inl h)
      · exact startFrame_of_blocked (.inr (Option.isSome_iff_ne_none.2 h))
      · exact startFrame_of_empty ha hq
    rwa [none] at run
  · rw [Completes, exec_frameSent, execFrameSent, operate_of_operating ho]
    rfl

/-! ### The end of an event -/

/-- What a command leaves of the transmitter and of the inbound stores when it finds nothing to send and nothing inbound. -/
theorem blocked_commandKept : CommandKept fun s => TransmitterBlocked s ∧ NothingInbound s where
  within w h := by
    simp only [TransmitterBlocked, NothingInbound, w.hrdy, w.sending, w.mailbox, w.inbound]; exact h
  floor hrdy link _ _ _ _ h := by simp only [TransmitterBlocked, NothingInbound, hrdy, link]; exact h
  answer k a h := by
    obtain ⟨hb, hm, hi⟩ := h
    refine ⟨by simpa [TransmitterBlocked, a.sending] using hb, ?_⟩
    rcases a.stores with ⟨mailbox, inbound⟩ | e
    · exact ⟨mailbox.trans hm, inbound.trans hi⟩
    · exact e
  scanner _ _ h := h
  channel _ _ _ h := h
  line l _ _ h := by cases l <;> exact h
  reset h := h

theorem pump_of_started {s u : State} (h : startFrame s = some u) (n : Nat) : pump (n + 1) s = pump n u := by
  conv_lhs => unfold pump
  rw [h]

/-- A frame that the Decoder can take is taken, and then nothing is left to do. -/
theorem settle_of_taken {s s1 : State} {f : Frame} (hl : LinesAtRest s) (hb : TransmitterBlocked s) (hg : GateOpen s)
    (hc : chooseFrame s = some (f, s1)) (h1 : TransmitterBlocked s1 ∧ NothingInbound s1) (hg1 : GateOpen s1) :
    settle s = testLines (takeFrame f s1) := by
  rw [settle, testLines_of_rest hl]
  conv_lhs => unfold pump
  rw [startFrame_of_blocked hb]
  have : gateOpen s = true := by simpa [gateOpen, GateOpen] using hg
  simp only [this, if_true, hc]
  obtain ⟨hb2, hn2⟩ := blocked_commandKept.testLines (blocked_commandKept.takeFrame h1 hg1 f)
  exact pump_of_rest hb2 (.inl hn2) _

/-- Settles O18: each round of `pump` finds the transmitter first, then the Decoder. -/
theorem eventEndActsOnlyWhereItMust : Obligations.EventEndActsOnlyWhereItMust := by
  refine ⟨fun s => settle_of_quiet, fun s hl hn hr hs => ?_, fun s f hl hb hg => ⟨fun hm hi => ?_, fun hm hi => ?_,
    fun g rest hm hi => ?_⟩⟩
  · have sent {u : State} (h : startFrame s = some u) (hb : u.link.sending.isSome = true) (hu : NothingInbound u) :
        settle s = u := by
      rw [settle, testLines_of_rest hl, pump_of_started h, pump_of_rest (.inr hb) (.inl hu)]
    exact ⟨fun r ha => sent (startFrame_of_alarm hr hs ha) rfl hn,
      fun ha r rest hq => sent (startFrame_of_report hr hs ha hq) rfl hn⟩
  · exact settle_of_taken hl hb hg (by unfold chooseFrame; rw [hm]; rfl) ⟨hb, rfl, hi⟩ hg
  · exact settle_of_taken hl hb hg (by unfold chooseFrame; rw [hm, hi]; rfl) ⟨hb, hm, rfl⟩ hg
  · unfold chooseFrame; rw [hm]; rfl

end Sys2Proof.Machine
end

section
/-! SUPPORT. What the operands of the host commands stand for: a value in range stands for its field, and every other value for
none. -/

namespace Sys2Proof.Machine

open Sys2Proof

theorem operandId_eq_some {n v : Nat} {i : Fin n} : operandId n v = some i ↔ i.val = v := by
  unfold operandId; split
  · simp [Fin.ext_iff, eq_comm]
  · next h => simp only [reduceCtorEq, false_iff]; rintro rfl; exact h i.isLt

theorem operandId_of_val {n v : Nat} {i : Fin n} (h : i.val = v) : operandId n v = some i := operandId_eq_some.2 h

theorem operandId_of_le {n v : Nat} (h : n ≤ v) : operandId n v = none := by simp [operandId, Nat.not_lt.2 h]

theorem operandFlag_eq_some {b : Byte} {f : Bool} : operandFlag b = some f ↔ IsFlag b ∧ (b == 1) = f := by
  unfold operandFlag IsFlag
  by_cases h1 : b = 1
  · subst h1; simp
  · by_cases h0 : b = 0
    · subst h0; simp
    · rw [if_neg h1, if_neg h0]
      exact ⟨nofun, fun ⟨h, _⟩ => absurd h (not_or.2 ⟨h0, h1⟩)⟩

theorem operandFlag_of_flag {b : Byte} (h : IsFlag b) : operandFlag b = some (b == 1) := operandFlag_eq_some.2 ⟨h, rfl⟩

theorem operandRange_of_mem {lo hi v : Nat} (low : lo ≤ v) (high : v ≤ hi) : operandRange lo hi v = some v :=
  operandRange_eq_some.2 ⟨⟨low, high⟩, rfl⟩

/-- An operand without a value is one that stands for nothing. -/
theorem operand_none {α : Type} {o : Option α} {p : Prop} (h : ∀ x, o = some x → p) (hn : ¬ p) : o = none :=
  Option.eq_none_iff_forall_ne_some.2 fun x e => hn (h x e)

/-- A byte is a numeral exactly when its value is the number. -/
theorem byte_eq_iff {b : Byte} (k : Nat) (hk : k < 256 := by decide) : b = BitVec.ofNat 8 k ↔ b.toNat = k := by
  rw [← BitVec.toNat_inj]; simp [Nat.mod_eq_of_lt hk]

theorem operandStepRate_eq_some {b : Byte} {n : Nat} :
    operandStepRate b = some n ↔ (b = 25 ∨ b = 50 ∨ b = 100 ∨ b = 200) ∧ b.toNat = n := by
  have rate : (b = 25 ∨ b = 50 ∨ b = 100 ∨ b = 200) ↔ b.toNat = 25 ∨ b.toNat = 50 ∨ b.toNat = 100 ∨ b.toNat = 200 :=
    or_congr (byte_eq_iff 25) (or_congr (byte_eq_iff 50) (or_congr (byte_eq_iff 100) (byte_eq_iff 200)))
  rw [rate]
  unfold operandStepRate
  split
  · next h => simp [h]
  · next h => simp [h]
  · next h => simp [h]
  · next h => simp [h]
  · next h1 h2 h3 h4 =>
    refine ⟨nofun, ?_⟩
    rintro ⟨h | h | h | h, -⟩
    exacts [absurd h h1, absurd h h2, absurd h h3, absurd h h4]

theorem operandZoneConfig_of_inRange {p : ZonePayload} (h : p.InRange) {z : ZoneId} (hz : z.val = p.zone.toNat) :
    operandZoneConfig p = some (z, p.config) := by
  obtain ⟨-, lux, band, low, high, up, down, fallback, gain, flag, interval⟩ := h
  simp [operandZoneConfig, operandZone, operandId_of_val hz, operandRange_of_mem, operandFlag_of_flag, ZonePayload.config,
    lux, band, low, high, up, down, fallback, gain, flag, interval]

theorem operandZoneConfig_of_not {p : ZonePayload} (h : ¬ p.InRange) : operandZoneConfig p = none := by
  refine operand_none (fun x e => ?_) h
  obtain ⟨_, zone, e⟩ := Option.bind_eq_some_iff.1 e
  obtain ⟨_, lux, e⟩ := Option.bind_eq_some_iff.1 e
  obtain ⟨_, band, e⟩ := Option.bind_eq_some_iff.1 e
  obtain ⟨_, low, e⟩ := Option.bind_eq_some_iff.1 e
  obtain ⟨_, high, e⟩ := Option.bind_eq_some_iff.1 e
  obtain ⟨_, up, e⟩ := Option.bind_eq_some_iff.1 e
  obtain ⟨_, down, e⟩ := Option.bind_eq_some_iff.1 e
  obtain ⟨_, fallback, e⟩ := Option.bind_eq_some_iff.1 e
  obtain ⟨_, gain, e⟩ := Option.bind_eq_some_iff.1 e
  obtain ⟨_, flag, e⟩ := Option.bind_eq_some_iff.1 e
  obtain ⟨_, interval, e⟩ := Option.bind_eq_some_iff.1 e
  simp only [operandRange_eq_some, operandFlag_eq_some] at lux band low high up down fallback gain flag interval
  exact ⟨operandId_eq_some.1 zone ▸ Nat.lt_succ_iff.1 (Fin.isLt _), lux.1.2, band.1.2, low.1.2, high.1.2, up.1, down.1,
    fallback.1.2, gain.1, flag.1, interval.1.2⟩

theorem operandBayConfig_of_inRange {p : BayPayload} (h : p.InRange) {b : BayId} (hb : b.val = p.bay.toNat) :
    operandBayConfig p = some (b, p.config) := by
  obtain ⟨-, sky, on, off, onHold, offHold, present, open', glare, fallback, rate, verify, settle⟩ := h
  have on' := p.glareOn.isLt
  simp [operandBayConfig, operandBay, operandId_of_val hb, operandRange_of_mem, operandFlag_of_flag,
    operandStepRate_eq_some.2 ⟨rate, rfl⟩, BayPayload.config, sky, on, Nat.le_of_lt_succ on', off, onHold, offHold, present,
    open', glare, fallback, verify, settle]

theorem operandBayConfig_of_not {p : BayPayload} (h : ¬ p.InRange) : operandBayConfig p = none := by
  refine operand_none (fun x e => ?_) h
  obtain ⟨_, bay, e⟩ := Option.bind_eq_some_iff.1 e
  obtain ⟨_, sky, e⟩ := Option.bind_eq_some_iff.1 e
  obtain ⟨_, on, e⟩ := Option.bind_eq_some_iff.1 e
  obtain ⟨_, off, e⟩ := Option.bind_eq_some_iff.1 e
  obtain ⟨_, onHold, e⟩ := Option.bind_eq_some_iff.1 e
  obtain ⟨_, offHold, e⟩ := Option.bind_eq_some_iff.1 e
  obtain ⟨_, present, e⟩ := Option.bind_eq_some_iff.1 e
  obtain ⟨_, opened, e⟩ := Option.bind_eq_some_iff.1 e
  obtain ⟨_, glare, e⟩ := Option.bind_eq_some_iff.1 e
  obtain ⟨_, fallback, e⟩ := Option.bind_eq_some_iff.1 e
  obtain ⟨_, rate, e⟩ := Option.bind_eq_some_iff.1 e
  obtain ⟨_, verify, e⟩ := Option.bind_eq_some_iff.1 e
  obtain ⟨_, settle, e⟩ := Option.bind_eq_some_iff.1 e
  simp only [operandRange_eq_some] at on off onHold offHold opened glare fallback settle
  simp only [operandFlag_eq_some, operandStepRate_eq_some] at sky present rate verify
  exact ⟨operandId_eq_some.1 bay ▸ Nat.lt_succ_iff.1 (Fin.isLt _), sky.1, on.1.1, off.1.2, onHold.1.2, offHold.1.2, present.1,
    opened.1.2, glare.1.2, fallback.1.2, rate.1, verify.1, settle.1⟩

theorem operandLine_eq_some {b : Byte} {l : LineId} : operandLine b = some l ↔ b.toNat = lineCode l := by
  unfold operandLine
  by_cases h0 : b = 0
  · subst h0; cases l <;> simp [lineCode]
  · rw [if_neg h0]
    by_cases h1 : b = 1
    · subst h1; cases l <;> simp [lineCode]
    · rw [if_neg h1]
      cases l
      exacts [⟨nofun, fun h => absurd ((byte_eq_iff 0).2 h) h0⟩, ⟨nofun, fun h => absurd ((byte_eq_iff 1).2 h) h1⟩]

theorem operandLine_none {b : Byte} (h : 1 < b.toNat) : operandLine b = none := by
  refine operand_none (p := b.toNat ≤ 1) (fun l e => ?_) (Nat.not_le.2 h)
  rw [operandLine_eq_some.1 e]; cases l <;> decide

theorem operandZoneOrNone_of_val {b : Byte} {z : ZoneId} (h : b.toNat = z.val) :
    operandZoneOrNone b = some (some z) := by
  have : b ≠ 0xFF := by
    rintro rfl
    exact absurd (h ▸ z.isLt) (by decide)
  rw [operandZoneOrNone, if_neg this, operandZone, operandId_of_val h.symm]; rfl

theorem operandZoneOrNone_none {b : Byte} (h : ¬ (b.toNat ≤ 47 ∨ b = 0xFF)) : operandZoneOrNone b = none := by
  push Not at h
  rw [operandZoneOrNone, if_neg h.2, operandZone, operandId_of_le h.1]; rfl

end Sys2Proof.Machine
end

section
/-! PROOF. CONFIGURE ZONE, CONFIGURE BAY, CONFIGURE SENSOR, and the commands that write tables (O19, O20, O21, O28). -/

namespace Sys2Proof.Machine

open Sys2Proof

@[simp] theorem Target.isActive_iff (r : Target) : r.isActive = true ↔ r.state = .active := by
  simp [Target.isActive]

theorem Target.isActive_of_not {r : Target} (h : r.state ≠ .active) : r.isActive = false := by
  simpa [Target.isActive] using h

/-- What stays within a state that carries the REPLY carries it directly behind the records that were there. -/
theorem RepliesFirst.of_within {tag : Byte} {status : Status} {result : List Byte} {s w u : State}
    (hw : w.link = (replied tag status result s).link) (h : Within w u) : RepliesFirst tag status result s u := by
  have := h.grown; rw [hw] at this; exact this

/-! ### CONFIGURE ZONE -/

theorem takeConfigureZone_of_none {tag : Byte} {p : ZonePayload} {s : State} (h : operandZoneConfig p = none) :
    takeConfigureZone tag p s = replied tag .badValue [] s := by
  unfold takeConfigureZone; rw [h]; rfl

theorem takeConfigureZone_of_some {tag : Byte} {p : ZonePayload} {s : State} {z : ZoneId} {cfg : ZoneConfig}
    (h : operandZoneConfig p = some (z, cfg)) : takeConfigureZone tag p s =
      if cfg.maxLevel < cfg.minLevel then replied tag .badValue [] s
      else if (s.target (zoneTarget z)).state = .active then replied tag .busy [] s
      else ((replied tag .ok [] s).setZone z { s.zone z with cfg := cfg }).setTarget (zoneTarget z)
        { s.target (zoneTarget z) with state := .dormant } := by
  unfold takeConfigureZone; rw [h]
  simp only [Target.isActive_iff]
  rfl

/-- Settles O19: the operands are in range exactly as R3 says, and the checks follow in order. -/
theorem configureZoneWritesTheRecord : Obligations.ConfigureZoneWritesTheRecord := by
  intro h p s ht
  have run : Completes (.configureZone h p) s (takeConfigureZone h.tag p s) := completes_row (c := .configureZone p) ht
  have taken (hp : p.InRange) {z : ZoneId} (hz : z.val = p.zone.toNat) :=
    takeConfigureZone_of_some (tag := h.tag) (s := s) (operandZoneConfig_of_inRange hp hz)
  refine ⟨fun hp => run.of_eq (takeConfigureZone_of_none (operandZoneConfig_of_not hp)), fun hp hl => run.of_eq ?_,
    fun hp hl z hz => ⟨fun ha => run.of_eq ?_, fun ha => run.of_eq ?_⟩⟩
  · rw [taken hp (z := ⟨p.zone.toNat, Nat.lt_succ_iff.2 hp.1⟩) rfl]; exact if_pos hl
  · rw [taken hp hz, if_neg (show ¬ p.config.maxLevel < p.config.minLevel from Nat.not_lt.2 hl), if_pos ha]
  · rw [taken hp hz, if_neg (show ¬ p.config.maxLevel < p.config.minLevel from Nat.not_lt.2 hl), if_neg ha]

/-! ### CONFIGURE BAY -/

/-- The bay with its configured fields written and its shade target out of UNCONFIGURED (R14). -/
def bayWritten (tag : Byte) (b : BayId) (cfg : BayConfig) (s : State) : State :=
  ((replied tag .ok [] s).setBay b { s.bay b with cfg := cfg }).setTarget (shadeTarget b)
    { s.target (shadeTarget b) with state := .dormant }

/-- The sky sensor field is read anew: the sources of the bay's zones, and the Sequencer (R8). -/
def skyRead (b : BayId) (sky : Bool) (s : State) : State :=
  if sky then (zonesOf b).foldl (fun s z => reselect finish z s) s
  else seqSkyLost b ((zonesOf b).foldl (fun s z => reselect finish z s) s)

theorem takeConfigureBay_of_none {tag : Byte} {p : BayPayload} {s : State} (h : operandBayConfig p = none) :
    takeConfigureBay tag p s = replied tag .badValue [] s := by
  unfold takeConfigureBay; rw [h]; rfl

theorem takeConfigureBay_of_some {tag : Byte} {p : BayPayload} {s : State} {b : BayId} {cfg : BayConfig}
    (h : operandBayConfig p = some (b, cfg)) : takeConfigureBay tag p s =
      if cfg.glareOn ≤ cfg.glareOff then replied tag .badValue [] s
      else if (s.target (shadeTarget b)).state = .active then replied tag .busy [] s
      else
        let s3 := if cfg.shadePresent = (s.bay b).cfg.shadePresent then bayWritten tag b cfg s
          else positionRule b (bayWritten tag b cfg s)
        if cfg.skySensor = (s.bay b).cfg.skySensor then s3 else skyRead b cfg.skySensor s3 := by
  unfold takeConfigureBay; rw [h]
  simp only [Target.isActive_iff]
  rfl

theorem Within.skyRead {s t : State} (h : Within s t) (b : BayId) (sky : Bool) : Within s (skyRead b sky t) := by
  have sources := Within.foldl (fun _ _ z w => Within.reselect finish_stays w z) (zonesOf b) t h
  unfold Machine.skyRead; split
  exacts [sources, sources.seqSkyLost b]

theorem Within.positionRule {s t : State} (h : Within s t) (b : BayId) : Within s (positionRule b t) := by
  unfold Machine.positionRule; dsimp only; split <;> exact h.setDrive _ _

theorem reselect_of_not_active {fin : Finisher} {z : ZoneId} {s : State} (h : (s.target (zoneTarget z)).state ≠ .active) :
    reselect fin z s = s := by
  unfold reselect; rw [if_pos]; simp [Target.isActive_of_not h]

/-- A fold of steps that each leave the state is the state. -/
theorem foldl_stays {α : Type} {f : State → α → State} {s : State} {l : List α} (h : ∀ a ∈ l, f s a = s) :
    l.foldl f s = s := by
  induction l with
  | nil => rfl
  | cons a rest ih =>
    rw [List.foldl_cons, h a List.mem_cons_self]
    exact ih fun b hb => h b (List.mem_cons_of_mem a hb)

/-- With no ACTIVE zone in the bay and no sweep at work, no one reads the sky sensor field. -/
theorem skyRead_of_rest {b : BayId} {sky : Bool} {s : State}
    (hz : ∀ z ∈ zonesOf b, (s.target (zoneTarget z)).state ≠ .active) (hc : s.sweep.current = none) :
    skyRead b sky s = s := by
  have sources : (zonesOf b).foldl (fun s z => reselect finish z s) s = s :=
    foldl_stays fun z h => reselect_of_not_active (hz z h)
  unfold skyRead
  rw [sources]; split
  · rfl
  · rw [seqSkyLost, if_neg]; simp [calibratingIn, hc]

/-- Settles O20: the record is written first; the position rule and the reading of the sky sensor field stay within it. -/
theorem configureBayWritesTheRecord : Obligations.ConfigureBayWritesTheRecord := by
  intro h p s ht
  have run : Completes (.configureBay h p) s (takeConfigureBay h.tag p s) := completes_row (c := .configureBay p) ht
  have taken (hp : p.InRange) {b : BayId} (hb : b.val = p.bay.toNat) :=
    takeConfigureBay_of_some (tag := h.tag) (s := s) (operandBayConfig_of_inRange hp hb)
  refine ⟨?_, fun hp hg b hb => ⟨fun ha => run.of_eq ?_, fun ha => ⟨?_, ?_⟩⟩⟩
  · rintro (hp | ⟨hp, hg⟩)
    · exact run.of_eq (takeConfigureBay_of_none (operandBayConfig_of_not hp))
    · refine run.of_eq ?_
      rw [taken hp (b := ⟨p.bay.toNat, Nat.lt_succ_iff.2 hp.1⟩) rfl]; exact if_pos hg
  · rw [taken hp hb, if_neg (show ¬ p.config.glareOn ≤ p.config.glareOff from Nat.not_le.2 hg), if_pos ha]
  · refine ⟨_, run, ?_⟩
    rw [taken hp hb, if_neg (show ¬ p.config.glareOn ≤ p.config.glareOff from Nat.not_le.2 hg), if_neg ha]
    have placed : Within (bayWritten h.tag b p.config s)
        (if p.config.shadePresent = (s.bay b).cfg.shadePresent then bayWritten h.tag b p.config s
          else positionRule b (bayWritten h.tag b p.config s)) := by
      split
      exacts [.refl _, (Within.refl _).positionRule b]
    have all : Within (bayWritten h.tag b p.config s) (if p.config.skySensor = (s.bay b).cfg.skySensor then
        if p.config.shadePresent = (s.bay b).cfg.shadePresent then bayWritten h.tag b p.config s
          else positionRule b (bayWritten h.tag b p.config s)
        else skyRead b p.config.skySensor (if p.config.shadePresent = (s.bay b).cfg.shadePresent then
          bayWritten h.tag b p.config s else positionRule b (bayWritten h.tag b p.config s))) := by
      split
      exacts [placed, placed.skyRead b _]
    refine ⟨?_, ?_, .of_within (w := bayWritten h.tag b p.config s) rfl all⟩
    · rw [all.bayCfg b]; simp [bayWritten]
    · rw [all.targetState (shadeTarget b)]; simp [bayWritten]
  · intro hr u hu
    -- nothing reads the sky sensor field of a state with these targets and this sweep
    have rest {v : State} (hv : takeConfigureBay h.tag p s =
          if p.config.skySensor = (s.bay b).cfg.skySensor then v else skyRead b p.config.skySensor v)
        (targets : ∀ z, (v.target (zoneTarget z)).state = (s.target (zoneTarget z)).state) (sweep : v.sweep = s.sweep) :
        takeConfigureBay h.tag p s = v := by
      rw [hv]; split
      · rfl
      · next hs =>
        obtain ⟨hz, hc⟩ := hr.resolve_left (Ne.symm hs)
        exact skyRead_of_rest (fun z hm => by rw [targets]; exact hz z hm) (by rw [sweep, hc])
    have other (z : ZoneId) : zoneTarget z ≠ shadeTarget b := fun e => by
      have := congrArg Fin.val e; simp only [zoneTarget, shadeTarget] at this; omega
    have targets (z : ZoneId) : ((bayWritten h.tag b p.config s).target (zoneTarget z)).state =
        (s.target (zoneTarget z)).state := by
      rw [bayWritten, State.target_setTarget_other _ _ _ _ (other z)]; rfl
    have hu : u = bayWritten h.tag b p.config s := hu
    have taken := taken hp hb
    rw [if_neg (show ¬ p.config.glareOn ≤ p.config.glareOff from Nat.not_le.2 hg), if_neg ha] at taken
    refine ⟨fun hp => run.of_eq ?_, fun hp hd => run.of_eq ?_, fun hp hd => run.of_eq ?_⟩
    · rw [if_pos hp] at taken
      rw [hu]; exact rest taken targets rfl
    · rw [if_neg hp, positionRule, if_pos (show ((bayWritten h.tag b p.config s).drive b).state = .off from hd)] at taken
      rw [hu]; exact rest taken targets rfl
    · rw [if_neg hp, positionRule, if_neg (show ((bayWritten h.tag b p.config s).drive b).state ≠ .off from hd)] at taken
      rw [hu]; exact rest taken targets rfl

/-! ### CONFIGURE SENSOR -/

theorem takeConfigureSensor_of_some {tag channel : Byte} {p : SensorPayload} {s : State} {c : ChannelId}
    (hc : c.val = channel.toNat) (hu : IsFlag p.used) (hscale : 1 ≤ p.scale.toNat ∧ p.scale.toNat ≤ 4096)
    (hshift : p.shift.toNat ≤ 4) : takeConfigureSensor tag channel p s =
      restartChannel finish c (p.used == 1) p.scale.toNat p.shift.toNat (replied tag .ok [] s) := by
  unfold takeConfigureSensor
  rw [operandChannel, operandId_of_val hc, operandFlag_of_flag hu, operandRange_of_mem hscale.1 hscale.2,
    operandRange_of_mem (Nat.zero_le _) hshift]
  rfl

theorem takeConfigureSensor_of_not {tag channel : Byte} {p : SensorPayload} {s : State}
    (h : ¬ (channel.toNat ≤ 63 ∧ IsFlag p.used ∧ 1 ≤ p.scale.toNat ∧ p.scale.toNat ≤ 4096 ∧ p.shift.toNat ≤ 4)) :
    takeConfigureSensor tag channel p s = replied tag .badValue [] s := by
  unfold takeConfigureSensor
  split
  · next c _ _ _ hc hu hscale hshift =>
    rw [operandFlag_eq_some] at hu
    rw [operandRange_eq_some] at hscale hshift
    exact absurd ⟨operandId_eq_some.1 hc ▸ Nat.lt_succ_iff.1 c.isLt, hu.1, hscale.1.1, hscale.1.2, hshift.1.2⟩ h
  · rfl

theorem takeConfigureSensorAll_of_mem {tag : Byte} {p : SensorPayload} {s : State}
    (h : 100 ≤ p.interval.toNat ∧ p.interval.toNat ≤ 2000 ∧ p.interval.toNat % 100 = 0) :
    takeConfigureSensorAll tag p s = (replied tag .ok [] s).setScanner
      { s.scanner with interval := p.interval.toNat, scanTimer := some p.interval.toNat } := by
  unfold takeConfigureSensorAll; rw [operandScanInterval, if_pos h]; rfl

theorem takeConfigureSensorAll_of_not {tag : Byte} {p : SensorPayload} {s : State}
    (h : ¬ (100 ≤ p.interval.toNat ∧ p.interval.toNat ≤ 2000 ∧ p.interval.toNat % 100 = 0)) :
    takeConfigureSensorAll tag p s = replied tag .badValue [] s := by
  unfold takeConfigureSensorAll; rw [operandScanInterval, if_neg h]; rfl

/-- The part with a channel written anew, and the exchange in flight discarded when it is the channel's (R27). -/
def channelWritten (tag : Byte) (c : ChannelId) (r : Channel) (s : State) : State :=
  discardExchange c ((replied tag .ok [] s).setChannel c r)

/-- What the written channel, and every state that comes from it by way of a view of the channel, show of the Scanner. -/
theorem channelWritten_keeps {tag : Byte} {c : ChannelId} {r : Channel} {s w u : State} (hw : Within w u)
    (link : w.link = (channelWritten tag c r s).link) (channels : w.channels = (channelWritten tag c r s).channels)
    (scanner : w.scanner = (channelWritten tag c r s).scanner) :
    u.channel c = r ∧ (∀ d, d ≠ c → u.channel d = s.channel d) ∧
      u.scanner = { s.scanner with poll := s.scanner.poll.map fun q =>
        if q.channel = c then { q with discard := true } else q } ∧ RepliesFirst tag .ok [] s u := by
  have hu (d : ChannelId) : u.channel d = ((replied tag .ok [] s).setChannel c r).channel d := by
    rw [State.channel, hw.channels, channels]; rfl
  refine ⟨?_, fun d hd => ?_, by rw [hw.scanner, scanner]; rfl, .of_within link hw⟩
  · rw [hu, State.channel_setChannel_same]
  · rw [hu, State.channel_setChannel_other _ _ _ _ hd]; rfl

theorem configuredChannel_of_used (used : Byte) (scale shift : Nat) : configuredChannel (used == 1) scale shift =
    { used := used == 1, scale := scale, shift := shift, state := if used = 1 then .starting else .unused, history := [],
      filtered := none, lastRaw := none, missCount := 0, recoveryCount := 0, runCount := 1, spans := [] } := by
  by_cases e : used = 1 <;> simp [configuredChannel, e]

/-- What CONFIGURE SENSOR leaves when the channel was in UNUSED or STARTING: the written channel and nothing else. -/
theorem restartChannel_quiet {tag : Byte} {c : ChannelId} {used : Bool} {scale shift : Nat} {s : State}
    (h : (s.channel c).state = .unused ∨ (s.channel c).state = .starting) :
    restartChannel finish c used scale shift (replied tag .ok [] s) =
      channelWritten tag c (configuredChannel used scale shift) s := by
  refine restartChannel_of_other (s := replied tag .ok [] s) (fun e => ?_) fun k e => ?_
  all_goals
    rw [show (replied tag .ok [] s).channel c = s.channel c from rfl] at e
    rcases h with h | h <;> cases h.symm.trans e

/-- Settles O21: the channel record and the exchange are written first; the readers of the channel stay within that. -/
theorem configureSensorWritesItsFields : Obligations.ConfigureSensorWritesItsFields := by
  intro h channel p s ht
  have all : Completes (.configureSensorAll h p) s (takeConfigureSensorAll h.tag p s) :=
    completes_row (c := .configureSensorAll p) ht
  have run : Completes (.configureSensor h channel p) s (takeConfigureSensor h.tag channel p s) :=
    completes_row (c := .configureSensor channel p) ht
  refine ⟨fun low high mod => all.of_eq (takeConfigureSensorAll_of_mem ⟨low, high, mod⟩),
    fun hn => all.of_eq (takeConfigureSensorAll_of_not hn), fun hn => run.of_eq (takeConfigureSensor_of_not hn),
    fun c hc hu low high hshift => ⟨_, run.of_eq (takeConfigureSensor_of_some hc hu ⟨low, high⟩ hshift), ?_⟩⟩
  rw [← configuredChannel_of_used]
  obtain ⟨here, others, scanner, first⟩ := channelWritten_keeps (tag := h.tag) (s := s) (c := c) (w := channelWritten h.tag c
    (configuredChannel (p.used == 1) p.scale.toNat p.shift.toNat) s) (.refl _) rfl rfl rfl
  rcases hs : (s.channel c).state with _ | _ | _ | k
  · rw [restartChannel_quiet (.inl hs)]
    exact ⟨here, others, nofun, fun _ => rfl, scanner, first, fun _ => ⟨rfl, rfl, rfl, rfl, rfl, rfl⟩⟩
  · rw [restartChannel_quiet (.inr hs)]
    exact ⟨here, others, nofun, fun _ => rfl, scanner, first, fun _ => ⟨rfl, rfl, rfl, rfl, rfl, rfl⟩⟩
  · rw [restartChannel_of_valid (s := replied h.tag .ok [] s) hs]
    have hw : Within ((channelWritten h.tag c (configuredChannel (p.used == 1) p.scale.toNat p.shift.toNat) s).setView c
      ⟨false, none⟩) _ := Within.stateEvent (.refl _)
    obtain ⟨here, others, scanner, first⟩ := channelWritten_keeps hw rfl rfl rfl
    refine ⟨here, others, fun _ => ?_, fun n => absurd rfl n, scanner, first, nofun⟩
    exact (congrArg (·.get c) hw.views).trans (State.view_setView_same _ _ _)
  · rw [restartChannel_of_fault (s := replied h.tag .ok [] s) hs]
    have hw : Within (channelWritten h.tag c (configuredChannel (p.used == 1) p.scale.toNat p.shift.toNat) s) _ :=
      (Within.refl _).endReport finish_stays (channelTarget c) ⟨k.cls, .channel c⟩
    obtain ⟨here, others, scanner, first⟩ := channelWritten_keeps hw rfl rfl rfl
    exact ⟨here, others, nofun, fun _ => hw.views, scanner, first, nofun⟩

/-! ### Tables -/

theorem operandClass_eq_some {b : Byte} {c : FaultClass} : operandClass b = some c ↔ b.toNat = c.code := by
  unfold operandClass
  split
  case h_13 h1 h2 h3 h4 h5 h6 h7 h8 h9 h10 h11 h12 =>
    refine ⟨nofun, fun h => ?_⟩
    cases c
    exacts [absurd h h1, absurd h h2, absurd h h3, absurd h h4, absurd h h5, absurd h h6, absurd h h7, absurd h h8,
      absurd h h9, absurd h h10, absurd h h11, absurd h h12]
  all_goals next h =>
    rw [h]
    cases c <;> simp [FaultClass.code, FaultClass.index]

theorem operandClass_none {b : Byte} (h : ¬ (1 ≤ b.toNat ∧ b.toNat ≤ 12)) : operandClass b = none := by
  refine operand_none (fun c e => ?_) h
  rw [operandClass_eq_some.1 e]
  cases c <;> decide

theorem operandAction_none {b : Byte} (h : ¬ (1 ≤ b.toNat ∧ b.toNat ≤ 3)) : operandAction b = none := by
  unfold operandAction
  split
  case h_4 => rfl
  all_goals next e => exact absurd (by rw [e]; decide) h

theorem operandFlag_none {b : Byte} (h : ¬ IsFlag b) : operandFlag b = none :=
  operand_none (fun _ e => (operandFlag_eq_some.1 e).1) h

theorem takeSetResponse_of_some {tag : Byte} {p : ResponsePayload} {s : State} {c : FaultClass} {action : FaultAction}
    (hc : operandClass p.cls = some c) (ha : operandAction p.action = some action) (hf : IsFlag p.alarm) :
    takeSetResponse tag p s = { replied tag .ok [] s with
      responses := s.responses.set c.index.val ⟨action, p.alarm == 1⟩ c.index.isLt } := by
  unfold takeSetResponse; rw [hc, ha, operandFlag_of_flag hf]; rfl

theorem takeSetResponse_of_none {tag : Byte} {p : ResponsePayload} {s : State}
    (h : operandClass p.cls = none ∨ operandAction p.action = none ∨ operandFlag p.alarm = none) :
    takeSetResponse tag p s = replied tag .badValue [] s := by
  unfold takeSetResponse
  split
  · next hc ha hf => rw [hc, ha, hf] at h; simp at h
  · rfl

theorem takeSetLink_eq (tag a b : Byte) (s : State) : takeSetLink tag a b s =
    if 16 ≤ a.toNat ∧ a.toNat ≤ 63 ∧ 1 ≤ b.toNat ∧ b.toNat ≤ 60 then
      (replied tag .ok [] s).setLink
        { (replied tag .ok [] s).link with threshold := a.toNat, auditInterval := b.toNat }
    else replied tag .badValue [] s := by
  unfold takeSetLink operandRange
  by_cases ha : 16 ≤ a.toNat ∧ a.toNat ≤ 63
  · by_cases hb : 1 ≤ b.toNat ∧ b.toNat ≤ 60
    · rw [if_pos ha, if_pos hb, if_pos ⟨ha.1, ha.2, hb⟩]; rfl
    · rw [if_pos ha, if_neg hb, if_neg fun h => hb h.2.2]; rfl
  · have both : ¬ (16 ≤ a.toNat ∧ a.toNat ≤ 63 ∧ 1 ≤ b.toNat ∧ b.toNat ≤ 60) := fun h => ha ⟨h.1, h.2.1⟩
    rw [if_neg ha, if_neg both]; rfl

theorem takeWatch_of_some {tag a b : Byte} {s : State} {t : TargetId} (ha : a.toNat = t.val) (hb : IsFlag b) :
    takeWatch tag a b s = (replied tag .ok [] s).setTarget t { s.target t with watch := b == 1 } := by
  unfold takeWatch; rw [operandTarget, operandId_of_val ha.symm, operandFlag_of_flag hb]; rfl

theorem takeWatch_of_not {tag a b : Byte} {s : State} (h : 63 < a.toNat ∨ ¬ IsFlag b) :
    takeWatch tag a b s = replied tag .badValue [] s := by
  unfold takeWatch
  split
  · next ha hb =>
    rcases h with h | h
    · rw [operandTarget, operandId_of_le h] at ha; cases ha
    · rw [operandFlag_none h] at hb; cases hb
  · rfl

/-- Settles O28: each command writes its own table. -/
theorem tableCommandsWriteTheirValues : Obligations.TableCommandsWriteTheirValues := by
  intro h p a b s ht
  have response : Completes (.setResponse h p) s (takeSetResponse h.tag p s) := completes_row (c := .setResponse p) ht
  have link : Completes (.setLink h a b) s (takeSetLink h.tag a b s) := completes_row (c := .setLink a b) ht
  have watch : Completes (.watch h a b) s (takeWatch h.tag a b s) := completes_row (c := .watch a b) ht
  refine ⟨fun hn => response.of_eq (takeSetResponse_of_none ?_), fun c action hc ha hf =>
    response.of_eq (takeSetResponse_of_some (operandClass_eq_some.2 hc) ?_ hf), fun h1 h2 h3 h4 => link.of_eq ?_,
    fun hn => link.of_eq ?_, fun t ha hb => watch.of_eq (takeWatch_of_some ha hb),
    fun hn => watch.of_eq (takeWatch_of_not hn)⟩
  · by_cases hc : 1 ≤ p.cls.toNat ∧ p.cls.toNat ≤ 12
    · by_cases ha : 1 ≤ p.action.toNat ∧ p.action.toNat ≤ 3
      · exact .inr (.inr (operandFlag_none fun hf => hn ⟨hc.1, hc.2, ha.1, ha.2, hf⟩))
      · exact .inr (.inl (operandAction_none ha))
    · exact .inl (operandClass_none hc)
  · rcases ha with ⟨ha, rfl⟩ | ⟨ha, rfl⟩ | ⟨ha, rfl⟩ <;> simp [operandAction, ha]
  · rw [takeSetLink_eq, if_pos ⟨h1, h2, h3, h4⟩]
  · rw [takeSetLink_eq, if_neg hn]

end Sys2Proof.Machine
end

section
/-! PROOF. CONFIGURE LUMINAIRE (O22). -/

namespace Sys2Proof.Machine

open Sys2Proof

/-! ### A line with a luminaire configured -/

@[simp] theorem Line.lum_place (r : Line) (a b : Address) : (r.place a).lum b = r.lum b := by
  rw [Line.lum, Line.place_lums]; rfl

theorem Line.mem_place_other (r : Line) {a b : Address} (h : b ≠ a) : b ∈ (r.place a).list ↔ b ∈ r.list := by
  unfold Line.place; split
  · simp [h]
  · rfl

/-- A luminaire that a zone commands is marked dirty and placed. -/
theorem Line.mark_of_zone {r : Line} {a : Address} (hc : (r.lum a).configured = true) (hz : (r.lum a).zone.isSome = true) :
    r.mark a = (r.setLum a { r.lum a with dirty := true }).place a := by
  unfold Line.mark; rw [if_pos (by simp [hc, hz])]

/-- The line that CONFIGURE LUMINAIRE leaves: the record, marked where its zone is ACTIVE and else off the list (R151). -/
def configuredLine (r : Line) (a : Address) (v : Luminaire) (active : Bool) : Line :=
  if active then (r.setLum a v).mark a
  else { (r.setLum a v).setLum a { v with dirty := false } with list := r.list.filter fun b => b != a }

section
variable {r : Line} {a : Address} {v : Luminaire} {active : Bool}

theorem configuredLine_of_active (hc : v.configured = true) (hz : v.zone.isSome = true) :
    configuredLine r a v true = (r.setLum a { v with dirty := true }).place a := by
  rw [configuredLine, if_pos rfl, Line.mark_of_zone (by rwa [Line.lum_setLum_same]) (by rwa [Line.lum_setLum_same]),
    Line.lum_setLum_same, Line.setLum_setLum]

theorem configuredLine_of_not : configuredLine r a v false =
    { r.setLum a { v with dirty := false } with list := r.list.filter fun b => b != a } := by
  rw [configuredLine, if_neg Bool.false_ne_true, Line.setLum_setLum]

theorem lum_configuredLine_same (hc : v.configured = true) (hz : active = true → v.zone.isSome = true) :
    (configuredLine r a v active).lum a = { v with dirty := active } := by
  cases active with
  | true => rw [configuredLine_of_active hc (hz rfl), Line.lum_place, Line.lum_setLum_same]
  | false => rw [configuredLine_of_not]; exact Line.lum_setLum_same r a _

theorem configuredLine_other (hc : v.configured = true) (hz : active = true → v.zone.isSome = true) {b : Address}
    (h : b ≠ a) : (configuredLine r a v active).lum b = r.lum b ∧ (b ∈ (configuredLine r a v active).list ↔ b ∈ r.list) := by
  cases active with
  | true =>
    rw [configuredLine_of_active hc (hz rfl), Line.lum_place, Line.lum_setLum_other _ _ _ _ h, Line.mem_place_other _ h]
    exact ⟨rfl, Iff.rfl⟩
  | false =>
    rw [configuredLine_of_not]
    exact ⟨Line.lum_setLum_other r a b _ h, by simp [h]⟩

theorem not_mem_configuredLine : a ∉ (configuredLine r a v false).list := by
  rw [configuredLine_of_not]; simp

end

/-! ### The command -/

/-- The part once a reconfigured luminaire has left its zone, when it does. -/
def luminaireLeft (tag : Byte) (l : LineId) (a : Address) (moved : Bool) (s : State) : State :=
  if moved then leaveReports l a (replied tag .ok [] s) else replied tag .ok [] s

/-- The configured record of a luminaire. -/
def luminaireRecord (x : Luminaire) (moved : Bool) (zone : Option ZoneId) (trim : Nat) : Luminaire :=
  { x with
    configured := true, zone := zone, trim := trim, presence := if moved then .unknown else x.presence
    mismatch := if moved then false else x.mismatch }

theorem Within.luminaireLeft (tag : Byte) (l : LineId) (a : Address) (moved : Bool) (s : State) :
    Within (replied tag .ok [] s) (luminaireLeft tag l a moved s) := by
  unfold Machine.luminaireLeft; split
  exacts [(Within.refl _).leaveReports l a, .refl _]

/-- Where no condition is open nothing is reported. -/
theorem luminaireLeft_of_quiet {tag : Byte} {l : LineId} {a : Address} {moved : Bool} {s : State}
    (h : moved = false ∨ ((s.lum l a).presence ≠ .missing ∧ (s.lum l a).mismatch = false)) :
    luminaireLeft tag l a moved s = replied tag .ok [] s := by
  unfold luminaireLeft
  rcases h with h | ⟨hp, hm⟩
  · rw [h]; rfl
  · have quiet : leaveReports l a (replied tag .ok [] s) = replied tag .ok [] s := by
      have hl : (replied tag .ok [] s).lum l a = s.lum l a := by cases l <;> rfl
      unfold leaveReports
      simp only [hl]
      rw [if_neg hp, hm]; rfl
    rw [quiet]; split <;> rfl

theorem takeConfigureLuminaire_of_some {tag : Byte} {p : LuminairePayload} {s : State} {l : LineId} {a : Address}
    {zone : Option ZoneId} (hl : p.line.toNat = lineCode l) (ha : p.address.toNat = a.val)
    (hz : operandZoneOrNone p.zone = some zone) (low : 100 ≤ p.trim.toNat) (high : p.trim.toNat ≤ 1000) {moved : Bool}
    (hm : moved = ((s.lum l a).configured && (s.lum l a).zone != zone)) :
    takeConfigureLuminaire tag p s = (luminaireLeft tag l a moved s).setLine l
      (configuredLine ((luminaireLeft tag l a moved s).line l) a
        (luminaireRecord ((luminaireLeft tag l a moved s).lum l a) moved zone p.trim.toNat) (zoneActive s zone)) := by
  have hx : (replied tag .ok [] s).lum l a = s.lum l a := by cases l <;> rfl
  have active (w : State) (hw : Within (replied tag .ok [] s) w) (v : Luminaire) :
      zoneActive (w.setLum l a v) zone = zoneActive s zone := by
    cases zone with
    | none => rfl
    | some z =>
      have : ((w.setLum l a v).target (zoneTarget z)).state = (s.target (zoneTarget z)).state := by
        rw [State.setLum_eq, State.target_setLine, hw.targetState]; rfl
      simp only [zoneActive, Target.isActive, this]
  have line (w : State) (hw : Within (replied tag .ok [] s) w) (v : Luminaire) :
      (if zoneActive (w.setLum l a v) zone then markLuminaire l a (w.setLum l a v)
        else (w.setLum l a v).setLine l { ((w.setLum l a v).line l).setLum a
          { ((w.setLum l a v).line l).lum a with dirty := false } with
            list := ((w.setLum l a v).line l).list.filter fun b => b != a }) =
      w.setLine l (configuredLine (w.line l) a v (zoneActive s zone)) := by
    rw [active w hw, configuredLine, apply_ite (w.setLine l)]
    simp only [State.setLum_eq, markLuminaire, State.line_setLine_same, State.setLine_setLine, Line.lum_setLum_same]
    rfl
  unfold takeConfigureLuminaire
  rw [operandLine_eq_some.2 hl, operandAddress, operandId_of_val ha.symm, hz, operandRange_of_mem low high]
  dsimp only
  rw [reply_eq_replied, hx, ← hm]
  cases moved with
  | false => exact line _ (.luminaireLeft tag l a false s) _
  | true =>
    rw [if_pos rfl, leaveZone_eq, State.setLum_setLum, State.lum_setLum_same]
    exact line _ (.luminaireLeft tag l a true s) _

theorem takeConfigureLuminaire_of_not {tag : Byte} {p : LuminairePayload} {s : State}
    (h : ¬ (p.line.toNat ≤ 1 ∧ p.address.toNat ≤ 95 ∧ (p.zone.toNat ≤ 47 ∨ p.zone = 0xFF) ∧ 100 ≤ p.trim.toNat ∧
      p.trim.toNat ≤ 1000)) : takeConfigureLuminaire tag p s = replied tag .badValue [] s := by
  unfold takeConfigureLuminaire
  split
  · next l a zone trim hl ha hz ht =>
    refine absurd ⟨?_, operandId_eq_some.1 ha ▸ Nat.lt_succ_iff.1 a.isLt, ?_, (operandRange_eq_some.1 ht).1⟩ h
    · rw [operandLine_eq_some.1 hl]; cases l <;> decide
    · by_contra hn
      rw [operandZoneOrNone_none hn] at hz; cases hz
  · rfl

/-- Settles O22: the record is written on the line that the reports of its old zone leave, and these touch dirty marks alone. -/
theorem configureLuminaireWritesTheRecord : Obligations.ConfigureLuminaireWritesTheRecord := by
  intro h p s ht
  have run : Completes (.configureLuminaire h p) s (takeConfigureLuminaire h.tag p s) :=
    completes_row (c := .configureLuminaire p) ht
  refine ⟨fun hn => run.of_eq (takeConfigureLuminaire_of_not hn), fun l a zone hl ha hz low high x hx moved hm =>
    ⟨_, run, ?_⟩⟩
  have hzone : operandZoneOrNone p.zone = some zone := by
    rcases hz with ⟨hz, rfl⟩ | ⟨z, hz, rfl⟩
    · rw [hz]; rfl
    · exact operandZoneOrNone_of_val hz
  subst hx
  rw [takeConfigureLuminaire_of_some hl ha hzone low high hm]
  have hw := Within.luminaireLeft h.tag l a moved s
  have quiet := luminaireLeft_of_quiet (tag := h.tag) (l := l) (a := a) (moved := moved) (s := s)
  generalize luminaireLeft h.tag l a moved s = w at hw quiet
  have hsome : zoneActive s zone = true → zone.isSome = true := by cases zone <;> simp [zoneActive]
  have here := lum_configuredLine_same (r := w.line l) (a := a) (v := luminaireRecord (w.lum l a) moved zone p.trim.toNat)
    (active := zoneActive s zone) rfl hsome
  have old : w.lum l a = { s.lum l a with dirty := (w.lum l a).dirty } := by
    have := (hw.engine l).lums a
    rwa [show (replied h.tag .ok [] s).line l = s.line l by cases l <;> rfl] at this
  have read : ∀ r b, (w.setLine l r).lum l b = r.lum b := fun r b => by
    rw [State.lum, State.line_setLine_same]; rfl
  refine ⟨?_, ?_, fun ⟨z, hz, ha⟩ => ?_, fun ha => ?_, fun hq => ?_⟩
  · rw [RepliesFirst, State.setLine_link]
    exact hw.grown
  · rw [read, here, old]; rfl
  · rw [read, here]; subst hz; simpa [zoneActive] using ha
  · have : zoneActive s zone = false := by
      cases zone with
      | none => rfl
      | some z => exact Target.isActive_of_not (ha z rfl)
    rw [read, here, State.line_setLine_same, this]
    exact ⟨rfl, not_mem_configuredLine⟩
  · obtain rfl := quiet hq
    refine ⟨fun b hb => ?_, fun m hm => ?_, by simp; rfl, by simp; rfl, by simp⟩
    · have hl : (replied h.tag .ok [] s).line l = s.line l := by cases l <;> rfl
      rw [read, State.line_setLine_same, hl]
      exact configuredLine_other rfl hsome hb
    · rw [State.line_setLine_other _ _ _ _ hm]; cases m <;> rfl

end Sys2Proof.Machine
end

section
/-! PROOF. The queries and their snapshots (O59, O60), and BUS HOLD and BUS RELEASE (O55). -/

namespace Sys2Proof.Machine

open Sys2Proof

/-! ### Bytes -/

theorem marks_eq (bs : List Bool) : marks bs = be1 (marksNat bs) := rfl

theorem be4_eq (n : Nat) : be4 n = [be1 (n / 16777216), be1 (n / 65536), be1 (n / 256), be1 n] := by
  simp [be4, be2, Nat.div_div_eq_div_mul]

@[simp] theorem be2_length (n : Nat) : (be2 n).length = 2 := rfl

@[simp] theorem be4_length (n : Nat) : (be4 n).length = 4 := rfl

@[simp] theorem FaultSource.bytes_length (x : FaultSource) : x.bytes.length = 2 := by cases x <;> rfl

@[simp] theorem calBytes_length (c : Option CalRecord) : (calBytes c).length = 9 := by cases c <;> rfl

theorem optByte_eq (v : Option Nat) : optByte v = be1 (v.getD 0xFF) := rfl

theorem flagByte_eq (b : Bool) : flagByte b = be1 b.toNat := rfl

theorem placeByte_eq {α : Type} [DecidableEq α] (x : α) (l : List α) :
    placeByte x l = if x ∈ l then be1 (l.idxOf x) else 0xFF := by
  simp only [placeByte, List.contains_iff_mem]

theorem marks2_eq (a b : Bool) : marks [a, b] = be1 (a.toNat + 2 * b.toNat) := rfl

theorem marks4_eq (a b c d : Bool) : marks [a, b, c, d] = be1 (a.toNat + 2 * b.toNat + 4 * c.toNat + 8 * d.toNat) := by
  rw [marks_eq]; simp only [marksNat]; congr 1; ring

theorem marks5_eq (a b c d e : Bool) :
    marks [a, b, c, d, e] = be1 (a.toNat + 2 * b.toNat + 4 * c.toNat + 8 * d.toNat + 16 * e.toNat) := by
  rw [marks_eq]; simp only [marksNat]; congr 1; ring

theorem ite_toNat (b : Bool) (n : Nat) : (if b = true then n else 0) = n * b.toNat := by cases b <;> simp

/-! ### Snapshots -/

theorem Context.bytes_eq (c : Context) : c.bytes =
    [be1 (16 * c.origin.code + c.kind.code), be1 (c.level + 16 * c.locked.toNat)] ++ be2 (c.value.getD 0) ++
      be2 c.fade ++ be2 (c.identity.getD 0) ++ be2 (secondsLeft c.hold) := by
  simp only [Context.bytes, originKindByte, ite_toNat, List.cons_append, List.nil_append]

theorem targetSnapshot_length (s : State) (t : TargetId) :
    (targetSnapshot s t).length = 5 + 10 * (s.target t).above.length := by
  have bytes : ∀ l : List Context, (l.flatMap Context.bytes).length = 10 * l.length := fun l => by
    induction l with
    | nil => rfl
    | cons c l ih => rw [List.flatMap_cons, List.length_append, ih, List.length_cons]; simp [Context.bytes]; omega
  simp only [targetSnapshot, List.length_append, List.length_cons, be2_length, bytes, List.length_reverse]

theorem targetSnapshot_eq (s : State) (t : TargetId) : targetSnapshot s t =
    [be1 ((s.target t).state.code + 4 * (s.target t).locked.toNat + 8 * (s.target t).window.toNat +
        16 * (s.target t).watch.toNat), be1 (s.target t).above.length,
      be1 (s.pendingList.filter fun e => e.target = t).length] ++ be2 ((s.target t).baseValue.getD 0xFFFF) ++
    (s.target t).above.reverse.flatMap fun c =>
      [be1 (16 * c.origin.code + c.kind.code), be1 (c.level + 16 * c.locked.toNat)] ++ be2 (c.value.getD 0) ++
        be2 c.fade ++ be2 (c.identity.getD 0) ++ be2 (secondsLeft c.hold) := by
  have count : (s.pendingList.countP fun e => e.target == t) = (s.pendingList.filter fun e => e.target = t).length := by
    rw [List.countP_eq_length_filter]; rfl
  simp only [targetSnapshot, ite_toNat, count, funext Context.bytes_eq, List.cons_append, List.nil_append]

theorem luminaireBusy {s : State} {l : LineId} {a : Address} {busy : Bool}
    (h : busy = true ↔ ∃ t, (s.line l).transaction = some t ∧ t.address = a) : (s.line l).inFlight a = busy := by
  rw [Bool.eq_iff_iff, h]
  unfold Line.inFlight
  cases (s.line l).transaction <;> simp

theorem countChannels_eq (s : State) (p : ChannelState → Bool) :
    countChannels s p = ((List.finRange 64).filter fun c => p (s.channel c).state).length := by
  rw [countChannels, allIds_eq_finRange, List.countP_eq_length_filter]

theorem ChannelState.isFault_eq (x : ChannelState) :
    x.isFault = (x == .fault .silent || x == .fault .range || x == .fault .stuck) := by
  rcases x with _ | _ | _ | k
  · rfl
  · rfl
  · rfl
  · cases k <;> rfl

theorem faultPage_length (l : List Condition) :
    (l.flatMap fun c => be1 c.cls.code :: c.source.bytes).length = 3 * l.length := by
  induction l with
  | nil => rfl
  | cons c l ih => rw [List.flatMap_cons, List.length_append, ih, List.length_cons]; simp; omega

/-- Settles O60: each snapshot is unfolded to the bytes of its layout. -/
theorem snapshotsFollowTheirLayouts : Obligations.SnapshotsFollowTheirLayouts := by
  refine ⟨⟨rfl, rfl, rfl, rfl, rfl, rfl, rfl, rfl, rfl, rfl, rfl, rfl, rfl, rfl, rfl, rfl, rfl⟩,
    fun n => ⟨BitVec.toNat_ofNat n 8, rfl, be4_eq n⟩, ⟨rfl, fun _ => rfl⟩, fun _ => rfl, fun _ => rfl, fun _ _ => rfl,
    fun s => ⟨?_, ?_, ?_, ?_, ?_, ?_, ?_, ?_, ?_, ?_, ?_, ?_⟩⟩
  · rintro t _ rfl
    exact ⟨targetSnapshot_length s t, targetSnapshot_eq s t⟩
  · rintro z _ _ rfl rfl
    refine ⟨by simp [zoneSnapshot], ?_⟩
    rcases h : (s.zone z).cal with _ | ⟨eg, _ | df, stamp⟩ <;>
      simp [zoneSnapshot, flagByte_eq, calBytes, marks2_eq, h]
  · rintro b _ _ _ rfl rfl rfl
    refine ⟨by simp [baySnapshot], ?_⟩
    simp only [baySnapshot, flagByte_eq, optByte_eq, placeByte_eq, marks5_eq, List.cons_append, List.nil_append]
  · rintro c _ rfl
    refine ⟨by simp [channelSnapshot], ?_⟩
    cases h : (s.channel c).lastRaw <;> simp [channelSnapshot, flagByte_eq, h]
  · intro count hc
    refine ⟨by simp [scanSnapshot], ?_⟩
    simp only [scanSnapshot, hc, countChannels_eq, ChannelState.isFault_eq]
  · rintro l a _ rfl
    refine ⟨by simp [luminaireSnapshot], fun busy hb => ?_⟩
    simp only [luminaireSnapshot, flagByte_eq, optByte_eq, placeByte_eq, marks4_eq, luminaireBusy hb, List.cons_append,
      List.nil_append]
    rfl
  · rintro l _ rfl
    refine ⟨?_, ?_⟩
    · cases h : (s.line l).transaction <;> simp [lineSnapshot, h]
    · cases h : (s.line l).transaction <;> simp [lineSnapshot, flagByte_eq, optByte_eq, be1, h]
  · intro t n h
    simp [faultSnapshot, h]
  · intro t n f h
    have page := faultPage_length ((f.openSet.drop n).take 8)
    rw [List.length_take, List.length_drop] at page
    refine ⟨?_, ?_⟩
    · cases hc : f.context <;> simp [faultSnapshot, h, contextAtFaultBytes, hc, page] <;> omega
    · cases hc : f.context <;> simp [faultSnapshot, h, contextAtFaultBytes, hc, marks2_eq, originKindByte, be1]
  · intro n e h
    simp [pendingSnapshot, h, be2]
  · intro n h
    simp [pendingSnapshot, List.getElem?_eq_none h]
  · rintro _ rfl
    refine ⟨by simp [sweepSnapshot], ?_⟩
    simp only [sweepSnapshot, optByte_eq, marks5_eq]

/-! ### Queries -/

/-- Settles O59: an index in its row names its object, and any other none. -/
theorem queriesAnswerASnapshot : Obligations.QueriesAnswerASnapshot := by
  intro h i a b s ht
  have run (c : Command) : Completes (c.row h) s (runCommand h.tag c s) := completes_row ht
  have answer {c : Command} {o : Option (List Byte)} (e : runCommand h.tag c s = answerQuery h.tag o s)
      (bytes : List Byte) (ho : o = some bytes) : Completes (c.row h) s (replied h.tag .ok bytes s) :=
    (run c).of_eq (by rw [e, ho]; rfl)
  have refuse {c : Command} {o : Option (List Byte)} (e : runCommand h.tag c s = answerQuery h.tag o s)
      (ho : o = none) : Completes (c.row h) s (replied h.tag .badValue [] s) :=
    (run c).of_eq (by rw [e, ho]; rfl)
  refine ⟨fun t e => answer (c := .queryTarget i) rfl _ (by rw [operandId_of_val e]; rfl),
    fun z e => answer (c := .queryZone i) rfl _ (by rw [operandId_of_val e]; rfl),
    fun y e => answer (c := .queryBay i) rfl _ (by rw [operandId_of_val e]; rfl),
    fun c e => answer (c := .querySensor i) rfl _ (by rw [operandId_of_val e]; rfl),
    answer (c := .querySensorAll) rfl _ rfl, fun l x hl hx => (run (.queryLuminaire a b)).of_eq ?_,
    fun l hl => answer (c := .queryLuminaireAll a) rfl _ (by rw [operandLine_eq_some.2 hl]; rfl),
    fun t e => answer (c := .queryFault a b) rfl _ (by rw [operandTarget, operandId_of_val e]; rfl),
    fun hi => answer (c := .queryPending i) rfl _ (if_pos (Nat.lt_succ_iff.2 hi)), answer (c := .querySweep i) rfl _ rfl,
    fun hi => ⟨refuse (c := .queryTarget i) rfl (by rw [operandId_of_le hi]; rfl),
      refuse (c := .querySensor i) rfl (by rw [operandId_of_le hi]; rfl)⟩,
    fun hi => refuse (c := .queryZone i) rfl (by rw [operandId_of_le hi]; rfl),
    fun hi => refuse (c := .queryBay i) rfl (by rw [operandId_of_le hi]; rfl),
    fun hi => refuse (c := .queryPending i) rfl (if_neg (Nat.not_lt.2 hi)),
    fun ha => refuse (c := .queryLuminaireAll a) rfl (by rw [operandLine_none ha]; rfl),
    fun hn => (run (.queryLuminaire a b)).of_eq ?_,
    fun hb => refuse (c := .queryFault a b) rfl (by rw [operandTarget, operandId_of_le hb]; rfl)⟩
  · show takeQueryLuminaire h.tag a b s = _
    unfold takeQueryLuminaire; rw [operandLine_eq_some.2 hl, operandAddress, operandId_of_val hx.symm]; rfl
  · show takeQueryLuminaire h.tag a b s = _
    unfold takeQueryLuminaire
    split
    · next hl hx =>
      rcases hn with ha | hb
      · rw [operandLine_none ha] at hl; cases hl
      · rw [operandAddress, operandId_of_le hb] at hx; cases hx
    · rfl

/-! ### BUS HOLD and BUS RELEASE -/

theorem replied_line (tag : Byte) (status : Status) (result : List Byte) (s : State) (l : LineId) :
    (replied tag status result s).line l = s.line l := by cases l <;> rfl

/-- A line state taken with its notice. -/
theorem setLineState_eq (l : LineId) (state : LineState) (s : State) : setLineState l state s =
    noticed (.lineState l state (s.line l).list.length) (s.setLine l { s.line l with state := state }) := by
  rw [setLineState, lineNotice, State.line_setLine_same]; rfl

theorem takeBusHold_of_val {tag line : Byte} {s : State} {l : LineId} (h : line.toNat = lineCode l) :
    takeBusHold tag line s =
      if (s.line l).state = .run then
        if (s.line l).transaction = none then
          noticed (.lineState l .held (s.line l).list.length)
            ((replied tag .ok [] s).setLine l { s.line l with state := .held })
        else (replied tag .ok [] s).setLine l { s.line l with state := .holdPending }
      else replied tag .ok [] s := by
  unfold takeBusHold
  rw [operandLine_eq_some.2 h]
  dsimp only
  simp only [setLineState_eq, reply_eq_replied, replied_line]
  rcases (s.line l).state with _ | _ | _ <;> rcases (s.line l).transaction with _ | t <;> rfl

theorem takeBusRelease_of_val {tag line : Byte} {s : State} {l : LineId} (h : line.toNat = lineCode l) :
    takeBusRelease tag line s =
      if (s.line l).state = .run then replied tag .ok [] s
      else noticed (.lineState l .run (s.line l).list.length)
        ((replied tag .ok [] s).setLine l { s.line l with state := .run }) := by
  unfold takeBusRelease
  rw [operandLine_eq_some.2 h]
  dsimp only
  simp only [setLineState_eq, reply_eq_replied, replied_line]
  rcases (s.line l).state with _ | _ | _ <;> rfl

/-- Settles O55: the line state and the transaction in flight decide, and an engine outside RUN is at rest. -/
theorem busHoldAndReleaseSetTheLineState : Obligations.BusHoldAndReleaseSetTheLineState := by
  intro h line s ht
  have hold : Completes (.busHold h line) s (takeBusHold h.tag line s) := completes_row (c := .busHold line) ht
  have release : Completes (.busRelease h line) s (takeBusRelease h.tag line s) :=
    completes_row (c := .busRelease line) ht
  refine ⟨fun hn => hold.of_eq ?_, fun l hl => ⟨fun hr hn => hold.of_eq ?_, fun hr hn => hold.of_eq ?_,
    fun hr => hold.of_eq ?_⟩, fun hn => release.of_eq ?_, fun l hl => ⟨fun hr => release.of_eq ?_,
    fun hr => release.of_eq ?_⟩, fun l u hu => testLine_of_rest (.inl ?_)⟩
  · unfold takeBusHold; rw [operandLine_none hn]; rfl
  · rw [takeBusHold_of_val hl, if_pos hr, if_pos hn]
  · rw [takeBusHold_of_val hl, if_pos hr, if_neg hn]
  · rw [takeBusHold_of_val hl, if_neg hr]
  · unfold takeBusRelease; rw [operandLine_none hn]; rfl
  · rw [takeBusRelease_of_val hl, if_neg hr]
  · rw [takeBusRelease_of_val hl, if_pos hr]
  · simp [Line.quiet, hu]

end Sys2Proof.Machine
end

section
/-! SUPPORT. The rows of the timers and the lines as effects on the part in operation. -/

namespace Sys2Proof.Machine

open Sys2Proof

section
variable {s : State} (ho : Operating s)
include ho

theorem completes_settleTimer (z : ZoneId) : Completes (.settleTimerExpiry z) s
    (if (s.zone z).settleTimer.isSome then s.setZone z { s.zone z with settling := false, settleTimer := none } else s) := by
  rw [Completes, exec_settleTimerExpiry, execSettleTimerExpiry, operate_of_operating ho]

theorem completes_readingTimer (z : ZoneId) : Completes (.readingTimerExpiry z) s
    (if (s.zone z).readingTimer.isSome then
      offerReading (readingOf s z)
        (s.setZone z { s.zone z with readingTimer := startSeconds (s.zone z).cfg.readingInterval })
    else s) := by
  rw [Completes, exec_readingTimerExpiry, execReadingTimerExpiry, operate_of_operating ho]

theorem completes_scanTimer : Completes .scanTimerExpiry s
    (if s.scanner.poll.isNone then startScan (s.setScanner { s.scanner with scanTimer := some s.scanner.interval })
    else s.setScanner { s.scanner with scanTimer := some s.scanner.interval, owed := true }) := by
  rw [Completes, exec_scanTimerExpiry, execScanTimerExpiry, operate_of_operating ho]
  rfl

theorem completes_owedScan : Completes .owedScanStart s (startOwedScan s) := by
  rw [Completes, exec_owedScanStart, execOwedScanStart, operate_of_operating ho]

theorem completes_sensorAnswer_good (channel : Byte) (raw : Half) : Completes (.sensorAnswer channel raw .good) s
    (endExchange (acceptedRaw s channel raw true) s) := by
  rw [Completes, exec_sensorAnswer, execSensorAnswer, operate_of_operating ho]

theorem completes_sensorAnswer_failed (channel : Byte) (raw : Half) : Completes (.sensorAnswer channel raw .failed) s
    (endExchange (acceptedRaw s channel raw false) s) := by
  rw [Completes, exec_sensorAnswer, execSensorAnswer, operate_of_operating ho]

theorem completes_sensorAnswer_late (channel : Byte) (raw : Half) : Completes (.sensorAnswer channel raw .late) s s := by
  rw [Completes, exec_sensorAnswer, execSensorAnswer, operate_of_operating ho]

theorem completes_sensorTimeout : Completes .sensorAnswerTimeout s (endExchange none s) := by
  rw [Completes, exec_sensorAnswerTimeout, execSensorAnswerTimeout, operate_of_operating ho]

theorem completes_auditTimer (l : LineId) : Completes (.auditTimerExpiry l) s
    (s.setLine l { s.line l with auditTimer := startSeconds s.link.auditInterval, auditOwed := true }) := by
  rw [Completes, exec_auditTimerExpiry, execAuditTimerExpiry, operate_of_operating ho]

theorem completes_updateStart (l : LineId) : Completes (.updateTransactionStart l) s (startUpdate l s) := by
  rw [Completes, exec_updateTransactionStart, execUpdateTransactionStart, operate_of_operating ho]

theorem completes_audit (l : LineId) : Completes (.audit l) s (startAudit l s) := by
  rw [Completes, exec_audit, execAudit, operate_of_operating ho]

theorem completes_luminaireTimeout {l : LineId} {t : Transaction} (ht : (s.line l).transaction = some t) :
    Completes (.luminaireAnswerTimeout l) s (attemptUnanswered finish l t s) := by
  rw [Completes, exec_luminaireAnswerTimeout, execLuminaireAnswerTimeout, operate_of_operating ho, ht]

theorem completes_luminaireAnswer_good {l : LineId} {t : Transaction} (ht : (s.line l).transaction = some t) (level : Half) :
    Completes (.luminaireAnswer l level .good) s
      (if level.toNat ≤ 1000 then attemptAnswered finish l t level.toNat s else attemptUnanswered finish l t s) := by
  rw [Completes, exec_luminaireAnswer, execLuminaireAnswer, operate_of_operating ho, ht]

theorem completes_luminaireAnswer_failed {l : LineId} {t : Transaction} (ht : (s.line l).transaction = some t)
    (level : Half) : Completes (.luminaireAnswer l level .failed) s (attemptUnanswered finish l t s) := by
  rw [Completes, exec_luminaireAnswer, execLuminaireAnswer, operate_of_operating ho, ht]

theorem completes_luminaireAnswer_late (l : LineId) (level : Half) : Completes (.luminaireAnswer l level .late) s s := by
  rw [Completes, exec_luminaireAnswer, execLuminaireAnswer, operate_of_operating ho]

end

/-! ### The first index that satisfies a test -/

theorem allIds_find?_eq_some {n : Nat} {p : Fin n → Bool} {a : Fin n} :
    (allIds n).find? p = some a ↔ p a = true ∧ ∀ b, b < a → p b = false := by
  rw [allIds_eq_finRange, List.find?_eq_some_iff_getElem]
  simp only [List.getElem_finRange, List.length_finRange, Bool.not_eq_true']
  refine and_congr_right fun _ => ⟨?_, fun h => ⟨a.val, a.isLt, rfl, fun j hj => h _ hj⟩⟩
  rintro ⟨i, hi, rfl, h⟩ b hb
  exact h b.val hb

theorem allIds_find?_eq_none {n : Nat} {p : Fin n → Bool} : (allIds n).find? p = none ↔ ∀ a, p a = false := by
  simp [List.find?_eq_none, mem_allIds]

end Sys2Proof.Machine
end

section
/-! PROOF. The timers of the zones, and the Scanner (O51 to O54). -/

namespace Sys2Proof.Machine

open Sys2Proof

/-! ### Settle and reading timers -/

theorem offerReading_eq (r : Record) (s : State) : offerReading r s =
    if s.link.reports.length < s.link.threshold then s.setLink { s.link with reports := s.link.reports ++ [r] } else s := rfl

/-- The measure of a zone by its source (R43). -/
theorem measure_of_source {s : State} {z : ZoneId} {m : Option Nat}
    (h : ((s.zone z).source = .none ∧ m = none) ∨
      ((s.zone z).source = .direct ∧ m = (s.view (ceilingChannel z)).value) ∨
      ∃ sky c df, (s.zone z).source = .estimate ∧ (s.view (skyChannel (bayOf z))).value = some sky ∧
        (s.zone z).cal = some c ∧ c.df = some df ∧ m = some (sky * df / 1000 + (s.zone z).output * c.eg / 1000)) :
    measure s z = m := by
  unfold measure; dsimp only
  rcases h with ⟨hs, rfl⟩ | ⟨hs, rfl⟩ | ⟨sky, ⟨eg, df', stamp⟩, df, hs, hv, hc, hd, rfl⟩
  · rw [hs]
  · rw [hs]
  · simp only at hd; subst hd; rw [hs]; simp only [hv, hc]

/-- Settles O51: the two rows write the zone's timers; the READING shows the zone as it was. -/
theorem settleAndReadingTimers : Obligations.SettleAndReadingTimers := by
  intro z s ho
  refine ⟨fun h => (completes_settleTimer ho z).of_eq (if_pos h), fun h u hu => ?_⟩
  have run := (completes_readingTimer ho z).of_eq (if_pos h)
  rw [← show u = s.setZone z { s.zone z with readingTimer := startSeconds (s.zone z).cfg.readingInterval } from hu,
    offerReading_eq, show u.link = s.link by rw [hu]; rfl] at run
  refine ⟨fun hl => run.of_eq (if_neg (Nat.not_lt.2 hl)), fun hl m hm => run.of_eq ?_⟩
  rw [if_pos hl, readingOf, measure_of_source hm]

/-! ### Scans -/

theorem nextUsed_eq_some {s : State} {c : ChannelId} (h : (s.channel c).used = true)
    (below : ∀ d, d < c → (s.channel d).used = false) : nextUsed s 0 = some c := by
  rw [nextUsed, allIds_find?_eq_some]
  exact ⟨by simp [h], fun d hd => by simp [below d hd]⟩

theorem nextUsed_eq_none {s : State} (h : ∀ c, (s.channel c).used = false) (n : Nat) : nextUsed s n = none := by
  rw [nextUsed, allIds_find?_eq_none]
  intro c; simp [h c]

/-- What a scan starts with depends on the channels alone. -/
theorem startScan_setScanner (s : State) (k : Scanner) : startScan (s.setScanner k) =
    s.setScanner { k with poll := (nextUsed s 0).map fun c => ⟨c, some 3, false⟩ } := rfl

/-- Settles O52: a scan starts at the lowest used channel, when none is in progress. -/
theorem scanStartsOrIsOwed : Obligations.ScanStartsOrIsOwed := by
  intro s ho
  have scan := completes_scanTimer ho
  have owed := completes_owedScan ho
  refine ⟨fun p hp => scan.of_eq ?_, fun hn hu => scan.of_eq ?_, fun c hn hu below => ⟨scan.of_eq ?_, fun h => owed.of_eq ?_⟩,
    fun h => owed.of_eq ?_⟩
  · rw [hp]; rfl
  · rw [hn, Option.isNone_none, if_pos rfl, startScan_setScanner, nextUsed_eq_none hu]; dsimp only; rw [hn]; rfl
  · rw [hn, Option.isNone_none, if_pos rfl, startScan_setScanner, nextUsed_eq_some hu below]; rfl
  · rw [startOwedScan, if_pos (by simp [hn, h]), startScan_setScanner, nextUsed_eq_some hu below]; rfl
  · rw [startOwedScan, if_neg]
    rcases h with ⟨p, hp⟩ | h
    · simp [hp]
    · simp [h]

/-! ### The ends of exchanges -/

/-- The next poll writes the Scanner's record alone. -/
theorem nextPoll_scanner (last : ChannelId) (s : State) : ∃ k, nextPoll last s = s.setScanner k := by
  unfold nextPoll startOwedScan
  split
  · exact ⟨_, rfl⟩
  · exact ⟨_, rfl⟩

/-- The readers of a state event leave the channel's view as the event wrote it, and every channel record. -/
theorem stateEvent_scanner (c : ChannelId) (valid : Bool) (s : State) :
    (stateEvent finish c valid s).view c = ⟨valid, none⟩ ∧ (stateEvent finish c valid s).channels = s.channels := by
  have w : Within (s.setView c ⟨valid, none⟩) (stateEvent finish c valid s) := Within.stateEvent (.refl _)
  exact ⟨(congrArg (·.get c) w.views).trans (State.view_setView_same _ _ _), w.channels⟩

/-- The spans that a publication extends belong to other channels. -/
theorem referencePublication_keeps {c : ChannelId} {b : BayId} (h : takesReference c b = false) (v : Nat) (s : State) :
    (referencePublication b v s).channel c = s.channel c ∧ (referencePublication b v s).views = s.views := by
  unfold referencePublication
  refine foldl_keeps (fun w => w.channel c = s.channel c ∧ w.views = s.views) _ (fun w d hw => ?_) _ _ ⟨rfl, rfl⟩
  dsimp only; split
  · next ht =>
    have e : c ≠ d := by rintro rfl; simp [h] at ht
    rw [State.channel_setChannel_other _ _ _ _ e]
    exact hw
  · exact hw

/-- A publication leaves the channel itself as it was, and its view with the published value. -/
theorem publish_keeps (c : ChannelId) (v : Nat) (s : State) : (publish finish c v s).channel c = s.channel c ∧
    (publish finish c v s).view c = { s.view c with value := some v } := by
  have view (u : State) (h : u.views = (s.setView c { s.view c with value := some v }).views) :
      u.view c = { s.view c with value := some v } :=
    (congrArg (·.get c) h).trans (State.view_setView_same _ _ _)
  unfold publish; dsimp only
  have hu := Within.refl (s.setView c { s.view c with value := some v })
  split
  · next z _ =>
    have w := Within.seqCeiling finish_stays (t := if ((s.setView c { s.view c with value := some v }).zone z).source =
        .direct then governingSample z (s.setView c { s.view c with value := some v })
      else s.setView c { s.view c with value := some v }) (by split; exacts [hu.governingSample _, hu]) z v
    exact ⟨congrArg (·.get c) w.channels, view _ w.views⟩
  · next b hb =>
    have sources := Within.foldl (f := fun s z => if (s.zone z).source = .estimate then governingSample z s else s)
      (fun _ w z hw => by split; exacts [hw.governingSample _, hw]) (zonesOf b) _ hu
    have w := (sources.glarePublication finish_stays b v).seqSky b v
    have free : takesReference c b = false := by simp [takesReference, hb]
    obtain ⟨channel, views⟩ := referencePublication_keeps free v (seqSky b v (glarePublication finish b v
      ((zonesOf b).foldl (fun s z => if (s.zone z).source = .estimate then governingSample z s else s)
        (s.setView c { s.view c with value := some v }))))
    exact ⟨channel.trans (congrArg (·.get c) w.channels), view _ (views.trans w.views)⟩

/-- A channel written and published. -/
theorem publish_written (c : ChannelId) (f : Nat) (r : Channel) (s : State) :
    (publish finish c f (s.setChannel c r)).channel c = r ∧
      (publish finish c f (s.setChannel c r)).view c = { s.view c with value := some f } := by
  obtain ⟨channel, view⟩ := publish_keeps c f (s.setChannel c r)
  exact ⟨channel.trans (State.channel_setChannel_same _ _ _), view⟩

/-- A channel written, made VALID for its readers, and published. -/
theorem publish_started (c : ChannelId) (f : Nat) (r : Channel) (s : State) :
    (publish finish c f (stateEvent finish c true (s.setChannel c r))).channel c = r ∧
      (publish finish c f (stateEvent finish c true (s.setChannel c r))).view c = ⟨true, some f⟩ := by
  obtain ⟨channel, view⟩ := publish_keeps c f (stateEvent finish c true (s.setChannel c r))
  obtain ⟨event, channels⟩ := stateEvent_scanner c true (s.setChannel c r)
  exact ⟨channel.trans ((congrArg (·.get c) channels).trans (State.channel_setChannel_same _ _ _)),
    view.trans (by rw [event])⟩

/-- A channel that enters a FAULT state, as its readers find it afterwards. -/
theorem enterFault_keeps (c : ChannelId) (k : SensorFault) (d1 d2 : Nat) (r : Channel) (s : State) :
    (enterFault finish c k d1 d2 r s).channel c =
        { r with state := .fault k, history := [], filtered := none, recoveryCount := 0 } ∧
      (r.state = .valid → (enterFault finish c k d1 d2 r s).view c = ⟨false, none⟩) := by
  unfold enterFault; dsimp only
  have w : Within (s.setChannel c { r with state := .fault k, history := [], filtered := none, recoveryCount := 0 })
      (raiseFault finish (channelTarget c) ⟨k.cls, .channel c, .notApplicable, d1, d2⟩ (s.setChannel c
        { r with state := .fault k, history := [], filtered := none, recoveryCount := 0 })) :=
    (Within.refl _).raiseFault finish_stays _ _
  generalize raiseFault finish _ _ _ = u at w
  have channel {v : State} (h : v.channels = u.channels) : v.channel c =
      { r with state := .fault k, history := [], filtered := none, recoveryCount := 0 } :=
    (congrArg (·.get c) (h.trans w.channels)).trans (State.channel_setChannel_same _ _ _)
  split
  · next old hr =>
    exact ⟨channel ((Within.refl u).endReport finish_stays _ _).channels, fun e => by rw [hr] at e; cases e⟩
  · obtain ⟨view, channels⟩ := stateEvent_scanner c false u
    exact ⟨channel channels, fun _ => view⟩
  · next _ hn => exact ⟨channel rfl, fun e => absurd e hn⟩

section
variable {c : ChannelId} {raw : Nat} {s : State}

/-- An answer in range of a channel that still collects its history. -/
theorem takeAnswer_of_collecting (hr : outOfRange c raw ((s.channel c).scaled raw) = false)
    (hs : (s.channel c).state = .starting) (hl : (s.channel c).history.length < 2) :
    takeAnswer finish c raw s = s.setChannel c { s.channel c with
      missCount := 0, lastRaw := some raw, history := (s.channel c).history ++ [(s.channel c).scaled raw] } := by
  have hl' : ((s.channel c).history ++ [(s.channel c).scaled raw]).length < 3 := by
    rw [List.length_append, List.length_singleton]; omega
  unfold takeAnswer; dsimp only
  rw [show ({ s.channel c with missCount := 0, lastRaw := some raw } : Channel).scaled raw = (s.channel c).scaled raw
    from rfl, hr, hs]
  exact if_pos hl'

/-- An answer in range that completes the history. -/
theorem takeAnswer_of_starting (hr : outOfRange c raw ((s.channel c).scaled raw) = false)
    (hs : (s.channel c).state = .starting) (hl : 2 ≤ (s.channel c).history.length) :
    takeAnswer finish c raw s = publish finish c (medianOf ((s.channel c).history ++ [(s.channel c).scaled raw]))
      (stateEvent finish c true (s.setChannel c { s.channel c with
        state := .valid, missCount := 0, lastRaw := some raw
        history := (s.channel c).history ++ [(s.channel c).scaled raw]
        filtered := some (medianOf ((s.channel c).history ++ [(s.channel c).scaled raw])), runCount := 1, spans := [] })) := by
  have hl' : ¬ ((s.channel c).history ++ [(s.channel c).scaled raw]).length < 3 := by
    rw [List.length_append, List.length_singleton]; omega
  unfold takeAnswer; dsimp only
  rw [show ({ s.channel c with missCount := 0, lastRaw := some raw } : Channel).scaled raw = (s.channel c).scaled raw
    from rfl, hr, hs]
  exact if_neg hl'

/-- An answer in range of a VALID channel that differs from the one before: the run starts again, so the channel is not stuck. -/
theorem takeAnswer_of_valid (hr : outOfRange c raw ((s.channel c).scaled raw) = false)
    (hs : (s.channel c).state = .valid) (hn : (s.channel c).lastRaw ≠ some raw) {f : Nat}
    (hf : (s.channel c).filtered = some f) :
    takeAnswer finish c raw s =
      publish finish c (filterStep f (medianOf ((s.channel c).history.tail ++ [(s.channel c).scaled raw]))
        (s.channel c).shift) (s.setChannel c { s.channel c with
          missCount := 0, lastRaw := some raw, history := (s.channel c).history.tail ++ [(s.channel c).scaled raw]
          filtered := some (filterStep f (medianOf ((s.channel c).history.tail ++ [(s.channel c).scaled raw]))
            (s.channel c).shift), runCount := 1, spans := [] }) := by
  unfold takeAnswer; dsimp only
  generalize s.channel c = r at hr hs hn hf
  obtain ⟨used, scale, shift, state, history, filtered, lastRaw, missCount, recoveryCount, runCount, spans⟩ := r
  dsimp only [Channel.scaled] at hr hs hn hf ⊢
  subst hs hf
  simp [hr, Channel.run, hn, Channel.stuck]

end

theorem endExchange_of_taken {p : Poll} {s : State} (hp : s.scanner.poll = some p) (hd : p.discard = false) (raw : Nat) :
    endExchange (some raw) s = nextPoll p.channel (takeAnswer finish p.channel raw s) := by
  unfold endExchange; rw [hp]; dsimp only; rw [hd]; rfl

theorem endExchange_of_missed {p : Poll} {s : State} (hp : s.scanner.poll = some p) (hd : p.discard = false) :
    endExchange none s = nextPoll p.channel (takeUnanswered finish p.channel s) := by
  unfold endExchange; rw [hp]; dsimp only; rw [hd]; rfl

theorem endExchange_of_discarded {p : Poll} {s : State} (hp : s.scanner.poll = some p) (hd : p.discard = true)
    (raw : Option Nat) : endExchange raw s = nextPoll p.channel s := by
  unfold endExchange; rw [hp]; dsimp only; rw [hd]; rfl

/-- Settles O53: the answer is scaled and filtered by the channel's state, and what follows leaves the channel as written. -/
theorem answerFiltersAndPublishes : Obligations.AnswerFiltersAndPublishes := by
  rintro c p channel raw s ho hp rfl hd hc h0 h1 v rfl hv
  have raw0 : raw.toNat ≠ 0 := fun e => h0 (BitVec.eq_of_toNat_eq e)
  have raw1 : raw.toNat ≠ 65535 := fun e => h1 (BitVec.eq_of_toNat_eq e)
  have range : outOfRange p.channel raw.toNat ((s.channel p.channel).scaled raw.toNat) = false := by
    simp only [outOfRange, Channel.scaled, Bool.or_eq_false_iff, beq_eq_false_iff_ne, Bool.and_eq_false_iff,
      decide_eq_false_iff_not]
    exact ⟨⟨raw0, raw1⟩, or_iff_not_imp_left.2 fun h => hv (not_not.1 h)⟩
  obtain ⟨k, hk⟩ := nextPoll_scanner p.channel (takeAnswer finish p.channel raw.toNat s)
  have run : Completes (.sensorAnswer channel raw .good) s ((takeAnswer finish p.channel raw.toNat s).setScanner k) := by
    refine (completes_sensorAnswer_good ho channel raw).of_eq ?_
    rw [acceptedRaw, hp]
    simp only [Bool.true_and, hc, beq_self_eq_true, if_true]
    rw [endExchange_of_taken hp hd, hk]
  refine ⟨fun hs => ⟨fun hl => ⟨_, run, ?_⟩, fun x y hh => ⟨_, run, ?_⟩⟩, fun hs hn x y w f hh hf m hm g hg => ⟨_, run, ?_⟩⟩
  · rw [takeAnswer_of_collecting range hs hl]
    refine ⟨State.channel_setChannel_same _ _ _, fun d e => State.channel_setChannel_other _ _ _ _ e, rfl, rfl, rfl, rfl⟩
  · rw [takeAnswer_of_starting range hs (by rw [hh]; exact le_refl 2)]
    obtain ⟨channel, view⟩ := publish_started p.channel (medianOf ((s.channel p.channel).history ++
      [(s.channel p.channel).scaled raw.toNat])) { s.channel p.channel with
        state := .valid, missCount := 0, lastRaw := some raw.toNat
        history := (s.channel p.channel).history ++ [(s.channel p.channel).scaled raw.toNat]
        filtered := some (medianOf ((s.channel p.channel).history ++ [(s.channel p.channel).scaled raw.toNat]))
        runCount := 1, spans := [] } s
    rw [hh] at channel view ⊢
    exact ⟨channel, view⟩
  · rw [takeAnswer_of_valid range hs hn hf]
    obtain ⟨channel, view⟩ := publish_written p.channel (filterStep f (medianOf ((s.channel p.channel).history.tail ++
      [(s.channel p.channel).scaled raw.toNat])) (s.channel p.channel).shift) { s.channel p.channel with
        missCount := 0, lastRaw := some raw.toNat
        history := (s.channel p.channel).history.tail ++ [(s.channel p.channel).scaled raw.toNat]
        filtered := some (filterStep f (medianOf ((s.channel p.channel).history.tail ++
          [(s.channel p.channel).scaled raw.toNat])) (s.channel p.channel).shift)
        runCount := 1, spans := [] } s
    have step : filterStep f (medianOf ((s.channel p.channel).history.tail ++ [(s.channel p.channel).scaled raw.toNat]))
        (s.channel p.channel).shift = g := by
      rw [hh, hg]
      show filterStep f (max (min x y) (min (max x y) _)) _ = _
      rw [show max (min x y) (min (max x y) ((s.channel p.channel).scaled raw.toNat)) = m from hm.symm]
      split
      · next h => exact filterStep_of_le h _
      · next h => exact filterStep_of_ge (Nat.le_of_not_le h) _
    rw [step, hh] at channel view ⊢
    exact ⟨channel, view⟩

/-! ### Unanswered exchanges -/

/-- A miss of a channel in STARTING or VALID. -/
theorem takeUnanswered_of_listening {c : ChannelId} {s : State}
    (h : (s.channel c).state = .starting ∨ (s.channel c).state = .valid) : takeUnanswered finish c s =
      if (s.channel c).missCount + 1 < 2 then
        s.setChannel c { s.channel c with missCount := (s.channel c).missCount + 1 }
      else enterFault finish c .silent ((s.channel c).lastRaw.getD 0) 2 { s.channel c with missCount := 0 } s := by
  unfold takeUnanswered; dsimp only
  rcases h with h | h <;> rw [h]

/-- The rows that end an exchange unanswered. -/
theorem completes_unanswered {i : Instr} {p : Poll} {s : State} (ho : Operating s) (hp : s.scanner.poll = some p)
    (hi : i = .sensorAnswerTimeout ∨ ∃ channel raw arrival, i = .sensorAnswer channel raw arrival ∧ arrival ≠ .late ∧
      (arrival = .failed ∨ channel.toNat ≠ p.channel.val)) : Completes i s (endExchange none s) := by
  rcases hi with rfl | ⟨channel, raw, arrival, rfl, hl, hc⟩
  · exact completes_sensorTimeout ho
  · cases arrival with
    | good =>
      refine (completes_sensorAnswer_good ho channel raw).of_eq ?_
      rw [acceptedRaw, hp]
      simp [hc.resolve_left nofun]
    | failed =>
      refine (completes_sensorAnswer_failed ho channel raw).of_eq ?_
      rw [acceptedRaw, hp]; rfl
    | late => exact absurd rfl hl

/-- Settles O54: an unanswered exchange counts a miss, or takes the channel to SILENT. -/
theorem unansweredPollsSilenceAChannel : Obligations.UnansweredPollsSilenceAChannel := by
  rintro c p s ho hp rfl i hi
  have run := completes_unanswered ho hp hi
  refine ⟨completes_sensorAnswer_late ho, fun hd => ?_, fun hd hs => ?_⟩
  · obtain ⟨k, hk⟩ := nextPoll_scanner p.channel s
    exact ⟨_, run.of_eq ((endExchange_of_discarded hp hd none).trans hk), rfl, rfl, rfl⟩
  · obtain ⟨k, hk⟩ := nextPoll_scanner p.channel (takeUnanswered finish p.channel s)
    have run := run.of_eq ((endExchange_of_missed hp hd).trans hk)
    rw [takeUnanswered_of_listening hs] at run
    refine ⟨fun hm => ⟨_, run, ?_⟩, fun hm => ⟨_, run, ?_⟩⟩
    · rw [if_pos (by omega), hm]
      exact ⟨State.channel_setChannel_same _ _ _, fun d e => State.channel_setChannel_other _ _ _ _ e, rfl, rfl, rfl⟩
    · rw [if_neg (by omega)]
      exact enterFault_keeps p.channel .silent _ 2 { s.channel p.channel with missCount := 0 } s

end Sys2Proof.Machine
end

section
/-! PROOF. The luminaire lines (O56 to O58). -/

namespace Sys2Proof.Machine

open Sys2Proof

theorem quiet_of_run {s : State} {l : LineId} (hr : (s.line l).state = .run) (hn : (s.line l).transaction = none) :
    (s.line l).quiet = true := Line.quiet_iff.2 ⟨hr, hn⟩

/-! ### Updates -/

/-- A list whose head names a zone sends it a SET. -/
theorem startUpdate_of_zone {l : LineId} {a : Address} {rest : List Address} {s : State} {z : ZoneId}
    (hq : (s.line l).quiet = true) (hl : (s.line l).list = a :: rest) (hz : (s.lum l a).zone = some z) :
    startUpdate l s = (s.setLine l { s.line l with
        list := rest
        transaction := some ⟨a, .set, (s.zone z).output * (s.lum l a).trim / 1000, .update, 1⟩
        answerTimer := some 8 }).setLum l a
      { s.lum l a with dirty := false, sent := some ((s.zone z).output * (s.lum l a).trim / 1000) } := by
  have level : luminaireLevel s ((s.line l).lum a) = some ((s.zone z).output * (s.lum l a).trim / 1000) := by
    unfold luminaireLevel; rw [show ((s.line l).lum a).zone = some z from hz]; rfl
  unfold startUpdate; dsimp only
  rw [hq, hl, if_pos rfl]
  dsimp only
  rw [level, State.setLum_eq, State.line_setLine_same, State.setLine_setLine]
  rfl

/-- A list whose head names no zone loses it. -/
theorem startUpdate_of_none {l : LineId} {a : Address} {rest : List Address} {s : State}
    (hq : (s.line l).quiet = true) (hl : (s.line l).list = a :: rest) (hz : (s.lum l a).zone = none) :
    startUpdate l s = (s.setLine l { s.line l with list := rest }).setLum l a { s.lum l a with dirty := false } := by
  have level : luminaireLevel s ((s.line l).lum a) = none := by
    unfold luminaireLevel; rw [show ((s.line l).lum a).zone = none from hz]; rfl
  unfold startUpdate; dsimp only
  rw [hq, hl, if_pos rfl]
  dsimp only
  rw [level, State.setLum_eq, State.line_setLine_same, State.setLine_setLine]
  rfl

/-- Settles O56: the head of the list is taken, with the level that its zone's output and its trim give. -/
theorem updateSendsTheScaledOutput : Obligations.UpdateSendsTheScaledOutput := by
  intro l a rest s ho hr hn hl
  have hq := quiet_of_run hr hn
  have run := completes_updateStart ho l
  refine ⟨fun z v hz hv => ⟨fun hout htrim => ?_, fun u hu => ?_⟩, fun hz u hu => ?_⟩
  · rw [hv]
    exact (Nat.div_le_div_right (Nat.mul_le_mul hout htrim)).trans (by decide)
  · have e : startUpdate l s = u := by rw [startUpdate_of_zone hq hl hz, hu, hv]
    exact ⟨e, run.of_eq e⟩
  · have e : startUpdate l s = u := by rw [startUpdate_of_none hq hl hz, hu]
    exact ⟨e, run.of_eq e⟩

/-! ### Audits -/

theorem Line.auditChoice_eq (r : Line) : r.auditChoice =
    ((allIds 96).find? fun a => (r.lum a).configured && decide (∀ c, r.cursor = some c → c < a)).or
      ((allIds 96).find? fun a => (r.lum a).configured) := by
  have first : ∀ l : List Address, (match l with | a :: _ => some a | [] => none) = l.head? := fun l => by
    cases l <;> rfl
  unfold Line.auditChoice; dsimp only
  rcases hc : r.cursor with _ | c
  · simp only [reduceCtorEq, false_implies, implies_true, decide_true, Bool.and_true, ← List.head?_filter]
    cases List.filter (fun a => (r.lum a).configured) (allIds 96) <;> rfl
  · simp only [Option.some.injEq, forall_eq', ← List.head?_filter, List.filter_filter]
    rw [show (fun a : Address => decide (c.val < a.val) && (r.lum a).configured) =
      fun a => (r.lum a).configured && decide (c < a) from funext fun a => Bool.and_comm _ _]
    cases List.filter (fun a => (r.lum a).configured && decide (c < a)) (allIds 96) <;> rfl

/-- The lowest configured address above the cursor. -/
theorem Line.auditChoice_of_above {r : Line} {a : Address} (hc : (r.lum a).configured = true)
    (above : ∀ c, r.cursor = some c → c < a)
    (least : ∀ b, (r.lum b).configured = true → (∀ c, r.cursor = some c → c < b) → a ≤ b) : r.auditChoice = some a := by
  rw [Line.auditChoice_eq, (allIds_find?_eq_some (a := a)).2 ⟨by simpa [hc] using above, fun b hb => ?_⟩, Option.some_or]
  rw [Bool.and_eq_false_iff, decide_eq_false_iff_not, ← Bool.not_eq_true, ← not_and_or]
  exact fun ⟨hb', habove⟩ => absurd (least b hb' habove) (not_le.2 hb)

/-- No configured address above the cursor: the lowest of all. -/
theorem Line.auditChoice_of_wrap {r : Line} {a c : Address} (hc : (r.lum a).configured = true) (hcur : r.cursor = some c)
    (below : ∀ b, (r.lum b).configured = true → b ≤ c) (least : ∀ b, (r.lum b).configured = true → a ≤ b) :
    r.auditChoice = some a := by
  rw [Line.auditChoice_eq, allIds_find?_eq_none.2 fun b => ?_, Option.none_or, allIds_find?_eq_some]
  · exact ⟨hc, fun b hb => Bool.eq_false_iff.2 fun h => absurd (least b h) (not_le.2 hb)⟩
  · rw [Bool.and_eq_false_iff, decide_eq_false_iff_not, ← Bool.not_eq_true, ← not_and_or]
    exact fun ⟨hb, habove⟩ => absurd (habove c hcur) (not_lt.2 (below b hb))

theorem Line.auditChoice_of_none {r : Line} (h : ∀ a, (r.lum a).configured = false) : r.auditChoice = none := by
  rw [Line.auditChoice_eq, allIds_find?_eq_none.2 fun a => by simp [h a], allIds_find?_eq_none.2 fun a => h a]
  rfl

theorem startAudit_of_owed {l : LineId} {s : State} (hq : (s.line l).quiet = true) (hl : (s.line l).list = [])
    (hw : (s.line l).auditOwed = true) : startAudit l s = match (s.line l).auditChoice with
      | some a => s.setLine l { s.line l with
          auditOwed := false, transaction := some ⟨a, .query, 0, .audit, 1⟩, answerTimer := some 8 }
      | none => s.setLine l { s.line l with auditOwed := false } := by
  unfold startAudit; dsimp only
  rw [hq, hl, hw]
  rfl

/-- Settles O58: the timer owes the audit; the choice is the first configured address above the cursor, else the first. -/
theorem auditsGoRoundTheLine : Obligations.AuditsGoRoundTheLine := by
  intro l s ho
  refine ⟨completes_auditTimer ho l, fun hr hn hl hw => ⟨fun a hc hchoice => (completes_audit ho l).of_eq ?_,
    fun hnone => (completes_audit ho l).of_eq ?_⟩⟩
  · have choice : (s.line l).auditChoice = some a := by
      rcases hchoice with ⟨above, least⟩ | ⟨⟨c, hcur, below⟩, least⟩
      exacts [Line.auditChoice_of_above hc above least, Line.auditChoice_of_wrap hc hcur below least]
    rw [startAudit_of_owed (quiet_of_run hr hn) hl hw, choice]
  · rw [startAudit_of_owed (quiet_of_run hr hn) hl hw, Line.auditChoice_of_none hnone]

/-! ### The end of an update -/

/-- The end of a transaction of a luminaire that is not placed, on a line in RUN. -/
theorem endTransaction_of_run {l : LineId} {a : Address} {s : State} (hr : (s.line l).state = .run)
    (hp : (s.lum l a).dirty = false ∨ (s.lum l a).presence = .missing) :
    endTransaction l a s = s.setLine l { s.line l with transaction := none, answerTimer := none } := by
  have ended : (s.line l).ended a = { s.line l with transaction := none, answerTimer := none } := by
    unfold Line.ended Line.place
    rw [if_neg]
    rcases hp with h | h
    · simp [show ({ s.line l with transaction := none, answerTimer := none } : Line).lum a = s.lum l a from rfl, h]
    · simp [show ({ s.line l with transaction := none, answerTimer := none } : Line).lum a = s.lum l a from rfl, h]
  rw [endTransaction_eq, ended, if_neg]
  simp [hr]

theorem moveCursor_of_update {l : LineId} {t : Transaction} (h : t.purpose = .update) (s : State) :
    moveCursor l t s = s := by
  rw [moveCursor, if_neg (by rw [h]; decide)]

/-- A match for a luminaire that was not MISSING and had no open mismatch. -/
theorem updateAnswered_of_match {l : LineId} {t : Transaction} {level : Nat} {s : State}
    (high : level ≤ t.value + 20) (low : t.value ≤ level + 20) (hp : (s.lum l t.address).presence ≠ .missing)
    (hm : (s.lum l t.address).mismatch = false) : updateAnswered finish l t level s =
      s.setLum l t.address
        { s.lum l t.address with presence := .present, confirmed := some level, setConfirmed := true } := by
  have close : levelsMatch level t.value = true :=
    decide_eq_true (show _ ≤ 20 by omega)
  have present : answerPresence finish l t.address level s =
      s.setLum l t.address { s.lum l t.address with presence := .present, confirmed := some level } := if_neg hp
  unfold updateAnswered; dsimp only
  rw [present, if_pos close, State.lum_setLum_same, State.setLum_setLum, clearMismatch, State.lum_setLum_same]
  exact if_neg (by simp [hm])

theorem attemptUnanswered_again {l : LineId} {t : Transaction} {s : State} (ha : t.attempt = 1)
    (hh : (s.line l).state ≠ .holdPending) : attemptUnanswered finish l t s =
      s.setLine l { s.line l with transaction := some { t with attempt := 2 }, answerTimer := some 8 } := by
  rw [attemptUnanswered, if_pos ha, if_neg hh]; rfl

/-- A raise of an open class whose action is REPORT, outside the window, is recorded. -/
theorem raiseOutcome_of_report {s : State} {t : TargetId} {cls : FaultClass} (hw : (s.target t).window = false)
    (ha : (s.response cls).action = .report) : raiseOutcome s t cls = .recorded := by
  by_cases h : (s.target t).state = .active
  · by_cases hl : (s.target t).locked = true
    · exact raiseOutcome_of_locked h hl cls
    · rw [raiseOutcome_of_no_window h (by simpa using hl) hw, ha]; rfl
  · exact raiseOutcome_of_not_active h cls

theorem attemptUnanswered_second {l : LineId} {t : Transaction} {s : State} (ha : t.attempt = 2) (hp : t.purpose = .update) :
    attemptUnanswered finish l t s = endTransaction l t.address (foundMissing finish l t s) := by
  rw [attemptUnanswered, if_neg (by rw [ha]; decide), moveCursor_of_update hp]

/-! ### A recorded raise -/

/-- Routing a FAULT notice changes the Link Port only. -/
theorem routeFault_eq (n : FaultNotice) (s : State) : ∃ k, routeFault n s = s.setLink k := by
  unfold routeFault offerAlarm
  split
  · split
    exacts [⟨_, rfl⟩, ⟨_, offerNotice_eq _ _⟩]
  · exact ⟨_, offerNotice_eq _ _⟩

/-- A FAULT notice without alarm goes to the Report Queue. -/
theorem routeFault_of_report {n : FaultNotice} {s : State} (ho : n.outcome = .recorded)
    (ha : (s.response n.cls).alarm = false) : routeFault n s = s.setLink (noticeLink (.fault n) s.link) := by
  rw [← offerNotice_eq, routeFault, if_neg]
  rw [ho, ha]; decide

/-- A raise that is only recorded stores its record and routes its notice. -/
theorem raiseFault_recorded {s : State} {t : TargetId} {r : Raise} (h : raiseOutcome s t r.cls = .recorded) (fin : Finisher) :
    raiseFault fin t r s = routeFault (r.notice s t (recordRaise s t r))
      (s.setTarget t { s.target t with fault := some (recordRaise s t r) }) := by
  rw [raiseFault_of_recorded h, noteRaise_eq]
  rw [h, show (FaultOutcome.recorded == FaultOutcome.lock) = false from rfl, Bool.or_false]

/-- What the record of a raise says of that raise, whatever stood there before. -/
theorem recordRaise_values (s : State) (t : TargetId) (r : Raise) : (recordRaise s t r).latestClass = r.cls ∧
    (recordRaise s t r).source = r.source ∧ (recordRaise s t r).completion = r.completion ∧
    (recordRaise s t r).detail1 = r.detail1 ∧ (recordRaise s t r).detail2 = r.detail2 := by
  rcases hf : (s.target t).fault with _ | f
  · rw [recordRaise_of_none hf, FaultRecord.addCondition_frame]; exact ⟨rfl, rfl, rfl, rfl, rfl⟩
  · rw [recordRaise_of_some_frame hf]; exact ⟨rfl, rfl, rfl, rfl, rfl⟩

/-- The condition of the first self-clearing raise. -/
theorem recordRaise_open {s : State} {t : TargetId} {r : Raise} (hf : (s.target t).fault = none)
    (hc : r.cls.selfClearing = true) :
    (recordRaise s t r).openSet = [⟨r.cls, r.source⟩] ∧ (recordRaise s t r).latched = false := by
  rw [recordRaise_of_none hf, FaultRecord.addCondition_of_room hc (by simp) (by simp [Config.openSetCap])]
  exact ⟨rfl, rfl⟩

/-! ### A luminaire found MISSING -/

@[simp] theorem State.target_setLum (s : State) (l : LineId) (a : Address) (v : Luminaire) (t : TargetId) :
    (s.setLum l a v).target t = s.target t := by cases l <;> rfl

theorem raiseOutcome_setLum (s : State) (l : LineId) (a : Address) (v : Luminaire) (t : TargetId) (cls : FaultClass) :
    raiseOutcome (s.setLum l a v) t cls = raiseOutcome s t cls := by cases l <;> rfl

/-- The raise for a luminaire found MISSING by a SET: the SET is unconfirmed. -/
def missingRaise (l : LineId) (t : Transaction) : Raise :=
  ⟨.luminaireMissing, .luminaire l t.address, .incomplete, t.value, match t.cmd with | .set => 1 | .query => 2⟩

/-- A SET unanswered twice for a luminaire of a zone: the record, and the raise between. -/
theorem foundMissing_of_zone {l : LineId} {t : Transaction} {z : ZoneId} {s : State} (hp : t.purpose = .update)
    (hm : (s.lum l t.address).presence ≠ .missing) (hz : (s.lum l t.address).zone = some z) :
    foundMissing finish l t s = redirty l t.address (raiseFault finish (zoneTarget z) (missingRaise l t)
      (s.setLum l t.address { s.lum l t.address with setConfirmed := false, presence := .missing })) := by
  have unset : unconfirmed l t s = s.setLum l t.address { s.lum l t.address with setConfirmed := false } := if_pos hp
  rw [foundMissing_eq, unset, State.lum_setLum_same, if_neg hm, State.setLum_setLum]
  unfold raiseLuminaire
  rw [State.lum_setLum_same]
  dsimp only
  rw [hz]
  rfl

theorem redirty_eq {l : LineId} {a : Address} {s u : State} {z : ZoneId} (hl : s.line l = u.line l)
    (hz : (u.lum l a).zone = some z) : redirty l a s = s.setLum l a { u.lum l a with dirty := true } := by
  unfold redirty
  dsimp only
  rw [show s.lum l a = u.lum l a from congrArg (fun r : Line => r.lums.get a) hl, hz]
  simp

/-- Settles O57: each attempt's end by the lemma of its case; the raise of a luminaire found MISSING is recorded. -/
theorem setIsConfirmedSentAgainOrMissing : Obligations.SetIsConfirmedSentAgainOrMissing := by
  intro l t s ho ht hp
  refine ⟨fun level hlevel high low hpres hmis hdirty hrun => ?_, fun ha hh again hagain => ?_,
    completes_luminaireAnswer_late ho l, fun z ha hpres hz hrun hwin hresp => ?_⟩
  · have run := completes_luminaireAnswer_good ho ht level
    rw [if_pos hlevel] at run
    refine run.of_eq ?_
    have answered : attemptAnswered finish l t level.toNat s =
        endTransaction l t.address (moveCursor l t (updateAnswered finish l t level.toNat s)) := by
      unfold attemptAnswered; rw [hp]
    rw [answered, moveCursor_of_update hp, updateAnswered_of_match high low hpres hmis, endTransaction_of_run]
    · rw [State.setLum_eq, State.line_setLine_same, State.setLum_eq, State.line_setLine_same, State.setLine_setLine,
        State.setLine_setLine]
      rfl
    · rw [State.setLum_eq, State.line_setLine_same]; exact hrun
    · exact .inl (by rw [State.lum_setLum_same]; exact hdirty)
  · have unanswered := (attemptUnanswered_again ha hh).trans hagain.symm
    refine ⟨(completes_luminaireTimeout ho ht).of_eq unanswered, fun level arrival hnl hfail => ?_⟩
    cases arrival with
    | late => exact absurd rfl hnl
    | failed => exact (completes_luminaireAnswer_failed ho ht level).of_eq unanswered
    | good =>
      have out : ¬ level.toNat ≤ 1000 := by
        rcases hfail with h | h
        · cases h
        · omega
      have run := completes_luminaireAnswer_good ho ht level
      rw [if_neg out] at run
      exact run.of_eq unanswered
  · generalize hv : s.setLum l t.address { s.lum l t.address with setConfirmed := false, presence := .missing } = v
    have outcome : raiseOutcome v (zoneTarget z) (missingRaise l t).cls = .recorded := by
      rw [← hv, raiseOutcome_setLum]; exact raiseOutcome_of_report hwin hresp
    generalize hf : recordRaise v (zoneTarget z) (missingRaise l t) = f
    obtain ⟨k, hk⟩ := routeFault_eq ((missingRaise l t).notice v (zoneTarget z) f)
      (v.setTarget (zoneTarget z) { v.target (zoneTarget z) with fault := some f })
    have vlum : v.lum l t.address = { s.lum l t.address with setConfirmed := false, presence := .missing } := by
      rw [← hv, State.lum_setLum_same]
    have vline : v.line l = (s.line l).setLum t.address { s.lum l t.address with setConfirmed := false, presence := .missing } := by
      rw [← hv, State.setLum_eq, State.line_setLine_same]
    have found := foundMissing_of_zone hp hpres hz
    rw [hv, raiseFault_recorded outcome, hf, hk, redirty_eq (u := v) (z := z) (by simp) (by rw [vlum]; exact hz), vlum] at found
    generalize hw : (v.setTarget (zoneTarget z) { v.target (zoneTarget z) with fault := some f }).setLink k = w at found
    have wline : w.line l = v.line l := by rw [← hw]; simp
    have wtarget : w.target (zoneTarget z) = { v.target (zoneTarget z) with fault := some f } := by rw [← hw]; simp
    have unanswered := attemptUnanswered_second ha hp (l := l) (s := s)
    rw [found, endTransaction_of_run] at unanswered
    · refine ⟨_, (completes_luminaireTimeout ho ht).of_eq unanswered, ?_⟩
      have key := recordRaise_values v (zoneTarget z) (missingRaise l t)
      rw [hf] at key
      obtain ⟨latest, source, completion, detail1, detail2⟩ := key
      rw [State.target_setLine, State.target_setLum, wtarget, State.line_setLine_same, State.lum, State.line_setLine_same]
      refine ⟨?_, rfl, ?_, fun g hg => ?_, rfl⟩
      · rw [State.setLum_eq, State.line_setLine_same]; exact Line.lum_setLum_same _ _ _
      · rw [State.setLum_eq, State.line_setLine_same, Line.setLum_list, wline, vline, Line.setLum_list]
      · obtain rfl : f = g := Option.some.inj hg
        refine ⟨latest, source, detail1, detail2, completion, fun hnone => ?_⟩
        rw [← hf]
        exact recordRaise_open (by rw [← hv, State.target_setLum]; exact hnone) rfl
    · rw [State.setLum_eq, State.line_setLine_same, wline, vline]; exact hrun
    · exact .inr (by rw [State.lum_setLum_same])

end Sys2Proof.Machine
end

section
/-! PROOF. The checks of a REQUEST and its place on the Pending List (O29, O30). -/

namespace Sys2Proof.Machine

open Sys2Proof

/-! ### The operands of a REQUEST -/

theorem requestLevelAllowed_iff {n : Nat} : requestLevelAllowed n = true ↔ RequestLevel n := by
  simp [requestLevelAllowed, RequestLevel, and_assoc]

theorem identityPresent_iff {s : State} {i : Nat} : identityPresent s i = true ↔ IdentityTaken s i := by
  simp [identityPresent, IdentityTaken, mem_allIds]

theorem operandKind_eq_some {b : Byte} {k : Kind} : operandKind b = some k ↔ b.toNat = k.code ∧ k ≠ .auto := by
  unfold operandKind
  constructor
  · intro h; split at h <;> simp_all [Kind.code]
    all_goals (subst h; exact ⟨rfl, by decide⟩)
  · rintro ⟨h, hk⟩
    cases k
    · exact absurd rfl hk
    all_goals (rw [h]; rfl)

/-- The kind whose code a byte holds is the kind that the byte names, if it names one. -/
theorem operandKind_of_code {b : Byte} {k k' : Kind} (hc : b.toNat = k.code) (h : operandKind b = some k') : k' = k := by
  unfold operandKind at h
  rw [hc] at h
  cases k
  · cases h
  all_goals exact (Option.some.inj h).symm

theorem requestFieldsAllowed_zone {z : ZoneId} {kind : Kind} {v f : Nat} :
    requestFieldsAllowed (zoneTarget z) kind v f = true ↔ (kind = .fix ∧ v ≤ 1000 ∧ f ≤ 1000) ∨
      (kind = .cap ∧ v ≤ 1000 ∧ f = 0) ∨ (kind = .setpoint ∧ v ≤ 2000 ∧ f = 0) := by
  cases kind <;> simp [requestFieldsAllowed]

theorem requestFieldsAllowed_shade {b : BayId} {kind : Kind} {v f : Nat} :
    requestFieldsAllowed (shadeTarget b) kind v f = true ↔ kind = .fix ∧ v ≤ 239 ∧ f = 0 := by
  cases kind <;> simp [requestFieldsAllowed]

/-- The kinds that R74 allows, with their values and fade rates, are those of FieldsAllowed. -/
theorem fieldsAllowed_iff {p : RequestPayload} {t : TargetId} (ht : t.val = p.target.toNat) :
    p.FieldsAllowed ↔
      ∃ kind, operandKind p.kind = some kind ∧ requestFieldsAllowed t kind p.value.toNat p.fade.toNat = true := by
  have one : p.kind = 1 ↔ p.kind.toNat = 1 := byte_eq_iff 1
  have two : p.kind = 2 ↔ p.kind.toNat = 2 := byte_eq_iff 2
  have three : p.kind = 3 ↔ p.kind.toNat = 3 := byte_eq_iff 3
  have fade : p.fade = 0 ↔ p.fade.toNat = 0 := by rw [← BitVec.toNat_inj]; rfl
  simp only [operandKind_eq_some, RequestPayload.FieldsAllowed, one, two, three, fade, ← ht]
  rcases target_cases t with ⟨z, rfl⟩ | ⟨b, rfl⟩
  · have hz : (zoneTarget z).val ≤ 47 := Nat.lt_succ_iff.1 z.isLt
    simp only [requestFieldsAllowed_zone]
    constructor
    · rintro (⟨-, k, hv⟩ | ⟨-, k, hv⟩ | ⟨-, k, hv⟩ | ⟨hn, -⟩)
      · exact ⟨.fix, ⟨k, by decide⟩, .inl ⟨rfl, hv⟩⟩
      · exact ⟨.cap, ⟨k, by decide⟩, .inr (.inl ⟨rfl, hv⟩)⟩
      · exact ⟨.setpoint, ⟨k, by decide⟩, .inr (.inr ⟨rfl, hv⟩)⟩
      · omega
    · rintro ⟨_, ⟨k, -⟩, ⟨rfl, hv⟩ | ⟨rfl, hv⟩ | ⟨rfl, hv⟩⟩
      · exact .inl ⟨hz, k, hv⟩
      · exact .inr (.inl ⟨hz, k, hv⟩)
      · exact .inr (.inr (.inl ⟨hz, k, hv⟩))
  · have hb : 48 ≤ (shadeTarget b).val := Nat.le_add_right _ _
    simp only [requestFieldsAllowed_shade]
    constructor
    · rintro (⟨hn, -⟩ | ⟨hn, -⟩ | ⟨hn, -⟩ | ⟨-, k, hv⟩)
      · omega
      · omega
      · omega
      · exact ⟨.fix, ⟨k, by decide⟩, rfl, hv⟩
    · rintro ⟨_, ⟨k, -⟩, rfl, hv⟩
      exact .inr (.inr (.inr ⟨hb, k, hv⟩))

/-! ### The checks of R73 -/

section
variable {s : State} {t : TargetId} {p : RequestPayload}

theorem checkRequest_of_not_active (h : (s.target t).state ≠ .active) : checkRequest s t p = .error .notActive := by
  unfold checkRequest; dsimp only
  rw [Target.isActive_of_not h]; rfl

variable (ha : (s.target t).state = .active)
include ha

theorem checkRequest_of_level (h : ¬ RequestLevel p.level.toNat) : checkRequest s t p = .error .badLevel := by
  unfold checkRequest; dsimp only
  rw [if_neg (by simp [ha]), if_pos]
  rw [Bool.not_eq_true', ← Bool.not_eq_true, requestLevelAllowed_iff]; exact h

variable (hl : RequestLevel p.level.toNat)
include hl

/-- The checks up to the fields, in one step. -/
theorem checkRequest_of_fields {kind : Kind} (hk : operandKind p.kind = some kind)
    (hf : requestFieldsAllowed t kind p.value.toNat p.fade.toNat = true) : checkRequest s t p =
      if p.identity = 0 ∨ identityPresent s p.identity.toNat = true then .error .duplicate
      else if (s.target t).locked = true ∧ p.level ≠ 0 then .error .locked else .ok kind := by
  unfold checkRequest; dsimp only
  rw [if_neg (by simp [ha]), if_neg (by simpa using requestLevelAllowed_iff.2 hl), hk]
  simp [hf]

theorem checkRequest_of_not_fields (ht : t.val = p.target.toNat) (hf : ¬ p.FieldsAllowed) : checkRequest s t p = .error .badValue := by
  unfold checkRequest; dsimp only
  rw [if_neg (by simp [ha]), if_neg (by simpa using requestLevelAllowed_iff.2 hl)]
  rcases hk : operandKind p.kind with _ | kind
  · rfl
  · have : requestFieldsAllowed t kind p.value.toNat p.fade.toNat = false :=
      Bool.eq_false_iff.2 fun h => hf ((fieldsAllowed_iff ht).2 ⟨kind, hk, h⟩)
    simp [this]

end

theorem takeRequest_refused {tag : Byte} {p : RequestPayload} {t : TargetId} {status : Status} {s : State}
    (ht : t.val = p.target.toNat) (h : checkRequest s t p = .error status) :
    takeRequest tag p s = replied tag status [] s := by
  unfold takeRequest
  rw [operandTarget_of_val ht]; dsimp only
  rw [h]; rfl

/-- A REQUEST that passes its checks goes on to its placement. -/
theorem takeRequest_passes {tag : Byte} {p : RequestPayload} {t : TargetId} {kind : Kind} {s : State}
    (h : RequestPasses p t s) (hk : p.kind.toNat = kind.code) : takeRequest tag p s = placeRequest tag t kind p s := by
  obtain ⟨ht, ha, hl, hf, hi, hfree, hlock⟩ := h
  obtain ⟨kind', hk', hf'⟩ := (fieldsAllowed_iff ht.symm).1 hf
  obtain rfl := operandKind_of_code hk hk'
  unfold takeRequest
  rw [operandTarget_of_val ht.symm]; dsimp only
  rw [checkRequest_of_fields ha hl hk' hf', if_neg (not_or.2 ⟨hi, mt identityPresent_iff.1 hfree⟩), if_neg]
  rintro ⟨locked, level⟩
  rcases hlock with h | h
  · rw [h] at locked; cases locked
  · exact level h

/-- Settles O29: each check is reached past those before it. -/
theorem requestIsRefusedByItsFirstFailedCheck : Obligations.RequestIsRefusedByItsFirstFailedCheck := by
  intro h p s hs
  have run : Completes (.request h p) s (takeRequest h.tag p s) := completes_row (c := .request p) hs
  refine ⟨fun hp => run.of_eq (by unfold takeRequest; rw [operandTarget_none hp]; rfl), fun t ht =>
    ⟨fun ha => run.of_eq (takeRequest_refused ht (checkRequest_of_not_active ha)), fun ha =>
      ⟨fun hl => run.of_eq (takeRequest_refused ht (checkRequest_of_level ha hl)), fun hl =>
        ⟨fun hf => run.of_eq (takeRequest_refused ht (checkRequest_of_not_fields ha hl ht hf)), fun hf => ?_⟩⟩⟩⟩
  obtain ⟨kind, hk, hf'⟩ := (fieldsAllowed_iff ht).1 hf
  have checked := checkRequest_of_fields ha hl hk hf'
  refine ⟨fun hd => run.of_eq (takeRequest_refused ht ?_), fun hi hfree hlock hlevel => run.of_eq (takeRequest_refused ht ?_)⟩
  · rw [checked, if_pos (hd.imp_right identityPresent_iff.2)]
  · rw [checked, if_neg (not_or.2 ⟨hi, mt identityPresent_iff.1 hfree⟩), if_pos ⟨hlock, hlevel⟩]

/-! ### The Pending List -/

/-- An entry is placed behind every entry of lower or equal level and before the first of a higher one. -/
theorem placeEntry_split (e : Entry) (l : List Entry) : ∃ before after, l = before ++ after ∧
    (∀ x ∈ before, x.level ≤ e.level) ∧ (∀ x, after.head? = some x → e.level < x.level) ∧
    placeEntry e l = before ++ e :: after := by
  induction l with
  | nil => exact ⟨[], [], rfl, by simp, by simp, rfl⟩
  | cons x xs ih =>
    by_cases hx : x.level ≤ e.level
    · obtain ⟨before, after, rfl, hb, ha, hp⟩ := ih
      refine ⟨x :: before, after, rfl, ?_, ha, ?_⟩
      · simpa [hx] using hb
      · rw [placeEntry, if_pos hx, hp]; rfl
    · refine ⟨[], x :: xs, rfl, by simp, ?_, by rw [placeEntry, if_neg hx]; rfl⟩
      simpa using Nat.lt_of_not_le hx

/-- The entry of a request gives its HOST context. -/
theorem requestEntry_context (s : State) (t : TargetId) (kind : Kind) (p : RequestPayload) :
    (requestEntry s t kind p).context = p.contextOf kind := by
  unfold Entry.context hostContext requestEntry RequestPayload.contextOf operandHold
  split <;> rfl

/-- A REQUEST that is above the active level, or has no room above it, or finds the entry window open, pends or is refused. -/
theorem placeRequest_pends {tag : Byte} {t : TargetId} {kind : Kind} {p : RequestPayload} {s : State}
    (h : (s.active t).level < p.level.toNat ∨ (p.level.toNat < (s.active t).level ∧
      (4 ≤ (s.target t).above.length ∨ ((s.target t).window = true ∧ p.level ≠ 0)))) :
    placeRequest tag t kind p s = if s.pendingList.length < 32 then
        pendRequest (requestEntry s t kind p) (replied tag .pending [] s)
      else replied tag .pendingFull [] s := by
  have zero : p.level = 0 ↔ p.level.toNat = 0 := byte_eq_iff 0
  have other : ¬ (requestEntry s t kind p).level = (s.target t).active.level := by
    show ¬ p.level.toNat = (s.active t).level
    omega
  have blocked : ¬ ((requestEntry s t kind p).level < (s.target t).active.level ∧
      (s.target t).above.length < Config.stackCap ∧
      ((s.target t).window = false ∨ (requestEntry s t kind p).level = 0)) := by
    show ¬ (p.level.toNat < (s.active t).level ∧ (s.target t).above.length < 4 ∧
      ((s.target t).window = false ∨ p.level.toNat = 0))
    rintro ⟨lower, room, window⟩
    rcases h with h | ⟨-, h | ⟨hw, hz⟩⟩
    · omega
    · omega
    · rcases window with hw' | hz'
      · rw [hw] at hw'; cases hw'
      · exact hz (zero.2 hz')
  unfold placeRequest; dsimp only
  rw [if_neg other, if_neg blocked]
  rfl

/-- Settles O30: what cannot be placed pends by `placeEntry_split`. -/
theorem requestPends : Obligations.RequestPends := by
  intro h p t kind s hs hp hk hb
  have run : Completes (.request h p) s (takeRequest h.tag p s) := completes_row (c := .request p) hs
  rw [takeRequest_passes hp hk, placeRequest_pends hb] at run
  refine ⟨fun hfull => ?_, fun hroom => ?_⟩
  · rwa [if_neg (Nat.not_lt.2 hfull)] at run
  · rw [if_pos hroom] at run
    obtain ⟨before, after, hl, lower, higher, placed⟩ := placeEntry_split (requestEntry s t kind p) s.pendingList
    refine ⟨before, after, hl, lower, higher, run.of_eq ?_⟩
    unfold pendRequest
    rw [show (replied h.tag .pending [] s).pendingList = s.pendingList from rfl, placed]
    rfl

end Sys2Proof.Machine
end

section
/-! PROOF. The STOP of a sweep, the phase timer, the ramp tick and the glare hold timer (O38, O39, O48, O49). -/

namespace Sys2Proof.Machine

open Sys2Proof

/-! ### STOP of a sweep -/

@[simp] theorem endSweep_sweep (cause : SweepCause) (s : State) :
    (endSweep cause s).sweep = { s.sweep.clearZone with state := .idle } := by
  unfold endSweep; rw [offerNotice_eq]; rfl

/-- A STOP of a sweep that is not IDLE ends it, abandoning the zone in progress. -/
theorem takeStopSweep_of_running {tag : Byte} {s : State} (h : s.sweep.state ≠ .idle) :
    ∃ w, takeStopSweep tag s = endSweep .stopped w ∧ Within (replied tag .ok [0] s) w := by
  have start : Within (replied tag .ok [0] s) (replied tag .ok [0] s) := Within.refl _
  unfold takeStopSweep
  rcases hs : s.sweep.state with _ | _ | _
  · exact absurd hs h
  all_goals
    rcases s.sweep.current with _ | z
    · exact ⟨_, rfl, start⟩
    · exact ⟨_, rfl, (((start.setSweep _).popClaim finish_stays z).unfreezeBay _).reportZone z _ _ _⟩

/-- Settles O38: the commands by the sweep state; a sweep that runs is ended by `takeStopSweep_of_running`. -/
theorem stopEndsTheSweep : Obligations.StopEndsTheSweep := by
  intro h s ht
  have now : Completes (.stopSweepNow h) s (takeStopSweep h.tag s) := completes_row (c := .stopSweepNow) ht
  have after : Completes (.stopSweepAfterZone h) s (takeStopAfterZone h.tag s) :=
    completes_row (c := .stopSweepAfterZone) ht
  refine ⟨fun hi => ⟨now.of_eq ?_, after.of_eq ?_⟩, fun hr => ?_, fun hr => after.of_eq ?_, fun hr => after.of_eq ?_⟩
  · unfold takeStopSweep; rw [hi]; rfl
  · unfold takeStopAfterZone; rw [hi]; rfl
  · obtain ⟨w, hw, within⟩ := takeStopSweep_of_running (tag := h.tag) hr
    rw [hw] at now
    refine ⟨_, now, RepliesFirst.of_within rfl (within.endSweep _), ?_⟩
    rw [endSweep_sweep]
    exact ⟨rfl, rfl, rfl, rfl, rfl, rfl⟩
  · unfold takeStopAfterZone; rw [hr]; rfl
  · unfold takeStopAfterZone; rw [hr]; rfl

/-! ### The phase timer -/

theorem completes_phaseTimer {s : State} (ho : Operating s) : Completes .phaseTimerExpiry s (takePhaseExpiry s) := by
  rw [Completes, exec_phaseTimerExpiry, execPhaseTimerExpiry, operate_of_operating ho]

theorem takePhaseExpiry_of_settle {s : State} {z : ZoneId} (hc : s.sweep.current = some z) (ht : s.sweep.timer.isSome = true) :
    (s.sweep.phase = .darkSettle → takePhaseExpiry s = beginRead finish z .darkRead s) ∧
    (s.sweep.phase = .lightSettle → takePhaseExpiry s = beginRead finish z .lightRead s) := by
  obtain ⟨ms, hms⟩ := Option.isSome_iff_exists.1 ht
  unfold takePhaseExpiry
  rw [hc, hms]
  exact ⟨fun hp => by rw [hp], fun hp => by rw [hp]⟩

theorem beginRead_of_valid {fin : Finisher} {z : ZoneId} {phase : SweepPhase} {s : State} (h : s.sweep.ceilingValid = true) :
    beginRead fin z phase s = s.setSweep { s.sweep with phase := phase, timer := none } := if_pos h

theorem beginRead_of_not_valid {fin : Finisher} {z : ZoneId} {phase : SweepPhase} {s : State}
    (h : s.sweep.ceilingValid = false) :
    beginRead fin z phase s = disturb fin z (s.setSweep { s.sweep with phase := phase, timer := none }) :=
  if_neg (by simp [h])

/-- A zone's CALIBRATE context has a value only if some context of its stack has it. -/
theorem calibrateValue_ne {s : State} {z : ZoneId} {v : Nat} (h : ∀ c ∈ (s.target (zoneTarget z)).above, c.value ≠ some v) :
    calibrateValue s z ≠ some v := by
  unfold calibrateValue
  intro e
  obtain ⟨c, hc, hv⟩ := Option.bind_eq_some_iff.1 e
  exact h c (List.mem_of_find?_eq_some hc) hv

/-- A first disturbance of a zone whose context stands at 0 restarts the zone from DARK. -/
theorem disturb_restarts {fin : Finisher} {z : ZoneId} {s : State} (hr : s.sweep.restartUsed = false)
    (h : ∀ c ∈ (s.target (zoneTarget z)).above, c.value ≠ some 1000) : disturb fin z s =
      s.setSweep { s.sweep with restartUsed := true, m0 := none, s0 := none, m1 := none, s1 := none,
                                phase := .darkSettle, timer := some (1000 * s.sweep.settle) } := by
  unfold disturb; dsimp only
  rw [if_neg (by simp [hr]), if_neg]
  · rfl
  · exact calibrateValue_ne h

/-- Settles O39: the expiry begins the read phase, and a read phase without its channel is a disturbance. -/
theorem phaseTimerBeginsTheReading : Obligations.PhaseTimerBeginsTheReading := by
  intro z s ho hc ht
  have run := completes_phaseTimer ho
  obtain ⟨dark, light⟩ := takePhaseExpiry_of_settle hc ht
  refine ⟨fun hv => ⟨fun hp => run.of_eq ?_, fun hp => run.of_eq ?_⟩, fun hv hp hr h => run.of_eq ?_⟩
  · rw [dark hp, beginRead_of_valid hv]
  · rw [light hp, beginRead_of_valid hv]
  · rw [dark hp, beginRead_of_not_valid hv]
    exact disturb_restarts (s := s.setSweep _) hr h

/-! ### The ramp tick -/

@[simp] theorem zone_markZone (z y : ZoneId) (s : State) : (markZone z s).zone y = s.zone y := by
  simp only [State.zone, markZone_zones]

@[simp] theorem target_markZone (z : ZoneId) (t : TargetId) (s : State) : (markZone z s).target t = s.target t := by
  simp only [State.target, markZone_targets]

theorem completes_rampTick {s : State} (ho : Operating s) (z : ZoneId) : Completes (.rampTick z) s (takeRampTick z s) := by
  rw [Completes, exec_rampTick, execRampTick, operate_of_operating ho]

/-- The output after one ramp tick at rates per second (R52). -/
def rampNext (o r up down : Nat) : Nat := if o < r then min r (o + max 1 (up / 10)) else max r (o - max 1 (down / 10))

/-- A ramp tick rises to no more than the ramp target and falls to no less, by one step at least. -/
theorem rampNext_bounds (o r up down : Nat) : (o ≤ 1000 → r ≤ 1000 → rampNext o r up down ≤ 1000) ∧
    (o < r → o < rampNext o r up down ∧ rampNext o r up down ≤ r) ∧
    (r < o → r ≤ rampNext o r up down ∧ rampNext o r up down < o) := by
  unfold rampNext; split <;> omega

theorem rampNext_ne {o r up down : Nat} (h : o ≠ r) : rampNext o r up down ≠ o := by
  obtain ⟨-, up, down⟩ := rampNext_bounds o r up down
  rcases Nat.lt_or_gt_of_ne h with lt | gt
  exacts [(up lt).1.ne', (down gt).2.ne]

theorem Zone.rampTick_eq {x : Zone} {up down : Nat} (h : x.rates = .perSecond up down) : x.rampTick =
    { x with output := rampNext x.output x.rampTarget up down
             rampTimer := if rampNext x.output x.rampTarget up down = x.rampTarget then none else some 100 } := by
  unfold Zone.rampTick; dsimp only
  rw [h, Zone.settleRamp_eq]
  rfl

theorem takeRampTick_eq {z : ZoneId} {up down : Nat} {s : State} (ht : (s.zone z).rampTimer.isSome = true)
    (hr : (s.zone z).rates = .perSecond up down) (hne : (s.zone z).output ≠ (s.zone z).rampTarget) {u : State}
    (hu : u = markZone z (s.setZone z { s.zone z with
      output := rampNext (s.zone z).output (s.zone z).rampTarget up down
      rampTimer := if rampNext (s.zone z).output (s.zone z).rampTarget up down = (s.zone z).rampTarget then none
        else some 100 })) : takeRampTick z s = reportFallback finish z u := by
  have moved := rampNext_ne (up := up) (down := down) hne
  unfold takeRampTick; dsimp only
  rw [Option.isNone_eq_false_iff.2 ht, Zone.rampTick_eq hr, if_neg (by decide), if_neg moved, putZone, if_neg moved, hu]

theorem closeWindow_of_closed {fin : Finisher} {t : TargetId} {s : State} (h : (s.target t).window = false) :
    closeWindow fin t s = s := if_neg (by simp [h])

/-- No report closes a window where no fallback has come to its value or the window is closed. -/
theorem reportFallback_of_not {fin : Finisher} {z : ZoneId} {s : State} (h : (s.zone z).copy.origin ≠ .fault ∨
    (s.zone z).copy.value ≠ some (s.zone z).output ∨ (s.target (zoneTarget z)).window = false) :
    reportFallback fin z s = s := by
  unfold reportFallback; dsimp only
  split
  · rename_i arrived
    rcases h with h | h | h
    exacts [absurd arrived.1 h, absurd arrived.2 h, closeWindow_of_closed h]
  · rfl

/-- Settles O49: the tick by `Zone.rampTick_eq`, and the arrival report that it may make. -/
theorem rampTickMovesOneStep : Obligations.RampTickMovesOneStep := by
  rintro z up down s ho ht hr o r rfl rfl hne next hnext
  obtain rfl : next = rampNext (s.zone z).output (s.zone z).rampTarget up down := hnext
  have run := completes_rampTick ho z
  obtain ⟨bound, rise, fall⟩ := rampNext_bounds (s.zone z).output (s.zone z).rampTarget up down
  refine ⟨bound, rise, fall, fun h => run.of_eq ?_, _, run, (Within.takeRampTick s z).grown⟩
  rw [takeRampTick_eq ht hr hne rfl]
  refine reportFallback_of_not ?_
  rw [zone_markZone, target_markZone, State.zone_setZone_same, State.target_setZone]
  exact h

/-! ### The glare hold timer -/

theorem completes_glareHold {s : State} (ho : Operating s) {b : BayId} (ht : (s.bay b).glareTimer.isSome = true) :
    Completes (.glareHoldExpiry b) s (putGlare finish b (s.bay b).glare.completed none s) := by
  rw [Completes, exec_glareHoldExpiry, execGlareHoldExpiry, operate_of_operating ho, if_pos ht]

/-! ### A stop handed to a drive that rests in IDLE -/

/-- A drive in IDLE has taken a new desired stop: the marks that a change clears (R133). -/
def stopTaken (b : BayId) (stop : Nat) (s : State) : State :=
  clearHalted b (s.setDrive b { s.drive b with
    desired := some stop, following := false, powerTimeout := false, pendingStop := (s.drive b).pendingStop.afterChange })

theorem movementNeeded_stopTaken {b : BayId} {stop : Nat} {s : State} (hp : (s.drive b).position ≠ some stop) :
    movementNeeded (stopTaken b stop s) b = true := by
  simp [movementNeeded, stopTaken, clearHalted, hp]

/-- A drive in IDLE that is handed a new stop tests whether a movement is needed. -/
theorem driveHandoff_tests {fin : Finisher} {b : BayId} {stop : Nat} {s : State} (hs : (s.drive b).state = .idle)
    (hd : (s.drive b).desired ≠ some stop) : driveHandoff fin b (some stop) false s = testMovement b (stopTaken b stop s) := by
  have changed : (some stop != (s.drive b).desired) = true := by simpa using hd.symm
  have taken : changeDesired fin b (s.drive b).following
      (s.setDrive b { s.drive b with desired := some stop, following := false }) = testMovement b (stopTaken b stop s) := by
    have e : clearHalted b ((s.setDrive b { s.drive b with desired := some stop, following := false }).setDrive b
        { (s.setDrive b { s.drive b with desired := some stop, following := false }).drive b with
          powerTimeout := false
          pendingStop := ((s.setDrive b { s.drive b with desired := some stop, following := false }).drive b).pendingStop.afterChange }) =
        stopTaken b stop s := by
      rw [State.setDrive_setDrive, State.drive_setDrive_same]; rfl
    have idle : ((stopTaken b stop s).drive b).state = .idle := by simp [stopTaken, clearHalted, hs]
    unfold changeDesired; dsimp only
    rw [e, idle]
  unfold driveHandoff; dsimp only
  rw [if_neg (by rw [hs]; decide)]
  simp only [Option.isNone_some, Bool.false_and, Bool.false_eq_true, if_false, Option.isSome_some, Bool.true_and, changed,
    if_true, taken]

/-- A new stop away from the position sends a drive in IDLE for power. -/
theorem driveHandoff_idle {fin : Finisher} {b : BayId} {stop : Nat} {s : State} (hs : (s.drive b).state = .idle)
    (hp : (s.drive b).position ≠ some stop) (hd : (s.drive b).desired ≠ some stop) :
    driveHandoff fin b (some stop) false s = askPower b (stopTaken b stop s) := by
  rw [driveHandoff_tests hs hd, testMovement, if_pos (movementNeeded_stopTaken hp)]

theorem grantsHeld_stopTaken (b : BayId) (stop : Nat) (s : State) : grantsHeld (stopTaken b stop s) = grantsHeld s := by
  rw [stopTaken, clearHalted, grantsHeld_setBay]
  exact grantsHeld_setDrive rfl

theorem askPower_of_free {b : BayId} {s : State} (h : grantsHeld s < 4) : askPower b s = giveGrant b s := if_pos h

theorem askPower_of_none {b : BayId} {s : State} (h : 4 ≤ grantsHeld s) : askPower b s =
    (s.setDrive b { s.drive b with state := .waitPower, waitTimer := some 30000 }).setGrantQueue (s.grantQueue ++ [b]) :=
  if_neg (Nat.not_lt.2 h)

/-- The end of a claim that hands a shade another context than a fault context. -/
theorem finish_shade {b : BayId} {before : Context} {s u : State} (ha : (s.target (shadeTarget b)).state = .active)
    (hc : sameContext before (s.active (shadeTarget b)) = false) (ho : (s.active (shadeTarget b)).origin ≠ .fault)
    (hand : driveHandoff (finishClaim 5) b (s.active (shadeTarget b)).value false
      (s.setLink (noticesLink (changeNotice (shadeTarget b) (s.target (shadeTarget b))) s.link)) = u)
    (hn : NoZoneCalibrating u) : finish (shadeTarget b) before s = u := by
  have handed (k : LinkPort) : handTarget (finishClaim 5) (shadeTarget b) (s.setLink k) =
      driveHandoff (finishClaim 5) b (s.active (shadeTarget b)).value false (s.setLink k) := by
    unfold handTarget
    rw [viewTarget_shadeTarget, show (s.setLink k).active (shadeTarget b) = s.active (shadeTarget b) from rfl]
    dsimp only
    rw [desiredOf, if_neg (fun h => ho h.1), followsFault, beq_eq_false_iff_ne.2 ho, Bool.false_and]
  rw [finish_of_changed ha hc, noteChange_eq, handed, hand, checkPreempted_of_none hn]

/-! ### The glare hold timer, completed -/

theorem putGlare_of_same {fin : Finisher} {b : BayId} {g : Glare} {timer : Timer} {s : State}
    (h : (s.bay b).cfg.baseStop g = (s.bay b).cfg.baseStop (s.bay b).glare) :
    putGlare fin b g timer s = s.setBay b { s.bay b with glare := g, glareTimer := timer } := if_pos h

theorem putGlare_of_changed {fin : Finisher} {b : BayId} {g : Glare} {timer : Timer} {s : State} {new : Nat}
    (hn : (s.bay b).cfg.baseStop g = new) (h : new ≠ (s.bay b).cfg.baseStop (s.bay b).glare) :
    putGlare fin b g timer s = fin (shadeTarget b) (s.active (shadeTarget b))
      ((s.setBay b { s.bay b with glare := g, glareTimer := timer }).setTarget (shadeTarget b)
        { s.target (shadeTarget b) with baseValue := some new }) := by
  subst hn
  exact if_neg h

/-- Settles O48: a new base stop is handed on only where the base context is the active one. -/
theorem glareHoldExpiryCompletesThePendingState : Obligations.GlareHoldExpiryCompletesThePendingState := by
  intro b s ho ht old new g hg
  have run := completes_glareHold ho ht
  obtain ⟨done, was, will⟩ : (s.bay b).glare.completed = g ∧ (s.bay b).cfg.baseStop (s.bay b).glare = old ∧
      (s.bay b).cfg.baseStop g = new := by
    rcases hg with ⟨hs, rfl, rfl, rfl⟩ | ⟨hs, rfl, rfl, rfl⟩ <;> (rw [hs]; exact ⟨rfl, rfl, rfl⟩)
  rw [done] at run
  generalize hw : (s.setBay b { s.bay b with glare := g, glareTimer := none }).setTarget (shadeTarget b)
    { s.target (shadeTarget b) with baseValue := some new } = w
  have put (hne : old ≠ new) : putGlare finish b g none s = finish (shadeTarget b) (s.active (shadeTarget b)) w :=
    hw ▸ putGlare_of_changed will (was ▸ hne.symm)
  have wt : w.target (shadeTarget b) = { s.target (shadeTarget b) with baseValue := some new } := by
    rw [← hw, State.target_setTarget_same]
  have ws : w.sweep = s.sweep := by rw [← hw]; rfl
  have wd (x : BayId) : w.drive x = s.drive x := by rw [← hw]; rfl
  refine ⟨fun he => run.of_eq (putGlare_of_same (by rw [will, was, he])), fun hne habove hn => run.of_eq ?_,
    fun hne habove hact hbase hn hidle hdes hpos hfree => ?_⟩
  · rw [put hne]
    refine finish_of_same (show w.sweep.current = none by rw [ws]; exact hn) ?_
    unfold State.active Target.active
    rw [wt]
    rcases e : (s.target (shadeTarget b)).above with _ | ⟨c, rest⟩
    · exact absurd e habove
    · rfl
  · have base : s.active (shadeTarget b) = baseContext (some old) := by
      unfold State.active Target.active; rw [habove, hbase]
    have base' : w.active (shadeTarget b) = baseContext (some new) := by
      unfold State.active Target.active; rw [wt]; simp [habove]
    obtain ⟨k, hk⟩ : ∃ k, noticesLink (changeNotice (shadeTarget b) (w.target (shadeTarget b))) w.link = k := ⟨_, rfl⟩
    have moved : driveHandoff (finishClaim 5) b (some new) false (w.setLink k) =
        giveGrant b (stopTaken b new (w.setLink k)) := by
      rw [driveHandoff_idle (by rw [State.drive_setLink, wd, hidle]) (by rw [State.drive_setLink, wd, hpos]; simpa using hne)
        (by rw [State.drive_setLink, wd, hdes]; simpa using hne), askPower_of_free]
      rw [grantsHeld_stopTaken, grantsHeld_setLink, ← hw]
      exact hfree
    have ended : finish (shadeTarget b) (s.active (shadeTarget b)) w = giveGrant b (stopTaken b new (w.setLink k)) := by
      refine finish_shade (by rw [wt]; exact hact) ?_ (by rw [base']; exact show Origin.base ≠ .fault by decide) ?_ (show w.sweep.current = none by rw [ws]; exact hn)
      · rw [base, base']; exact sameContext_of_value (by simpa [baseContext] using hne)
      · rw [hk, base']; exact moved
    refine ⟨_, run.of_eq ((put hne).trans ended), ?_⟩
    have wb : w.bay b = { s.bay b with glare := g, glareTimer := none } := by rw [← hw]; simp
    simp [giveGrant, stopTaken, clearHalted, wt, wb, Config.energiseMs]

end Sys2Proof.Machine
end

section
/-! PROOF. The power of the drives and the ends of their timers (O45, O46, O47). -/

namespace Sys2Proof.Machine

open Sys2Proof

/-! ### Power -/

theorem releasePower_of_nil {b : BayId} {s : State} (h : s.grantQueue = []) :
    releasePower b s = s.setDrive b { s.drive b with grant := false } := by
  unfold releasePower; dsimp only
  rw [show (s.setDrive b { s.drive b with grant := false }).grantQueue = [] from h]

theorem releasePower_of_cons {b first : BayId} {rest : List BayId} {s : State} (h : s.grantQueue = first :: rest) :
    releasePower b s = giveGrant first ((s.setDrive b { s.drive b with grant := false }).setGrantQueue rest) := by
  unfold releasePower; dsimp only
  rw [show (s.setDrive b { s.drive b with grant := false }).grantQueue = first :: rest from h]

/-- Drive `b` has released its grant, which has gone to the head of the grant queue; nothing else has changed (R136). -/
structure GrantReleased (b : BayId) (s u : State) : Prop where
  own : u.drive b = { s.drive b with grant := false }
  unclaimed : s.grantQueue = [] → u.grantQueue = [] ∧ ∀ o, o ≠ b → u.drive o = s.drive o
  granted : ∀ first rest, s.grantQueue = first :: rest → u.grantQueue = rest ∧
    u.drive first = { s.drive first with state := .energizing, grant := true, energiseTimer := some 400, waitTimer := none } ∧
    ∀ o, o ≠ b → o ≠ first → u.drive o = s.drive o
  link : u.link = s.link
  targets : u.targets = s.targets
  bays : u.bays = s.bays
  zones : u.zones = s.zones

theorem grantReleased {b : BayId} {s : State} (hb : b ∉ s.grantQueue) : GrantReleased b s (releasePower b s) := by
  rcases hq : s.grantQueue with _ | ⟨first, rest⟩
  · rw [releasePower_of_nil hq]
    exact ⟨State.drive_setDrive_same _ _ _, fun _ => ⟨hq, fun o h => State.drive_setDrive_other _ _ _ _ h⟩,
      fun _ _ h => absurd (hq.symm.trans h) (by simp), rfl, rfl, rfl, rfl⟩
  · have hne : first ≠ b := fun e => hb (by rw [hq, e]; exact List.mem_cons_self)
    rw [releasePower_of_cons hq]
    refine ⟨(State.drive_setDrive_other _ _ _ _ hne.symm).trans (State.drive_setDrive_same s b _),
      fun h => absurd (hq.symm.trans h) (by simp), fun f r h => ?_, rfl, rfl, rfl, rfl⟩
    obtain ⟨rfl, rfl⟩ := List.cons.inj (hq.symm.trans h)
    refine ⟨rfl, ?_, fun o hob hof => ?_⟩
    · rw [giveGrant, State.drive_setDrive_same, State.drive_setGrantQueue, State.drive_setDrive_other _ _ _ _ hne]; rfl
    · rw [giveGrant, State.drive_setDrive_other _ _ _ _ hof, State.drive_setGrantQueue, State.drive_setDrive_other _ _ _ _ hob]

theorem movementNeeded_eq_false {s : State} {b : BayId} : movementNeeded s b = false ↔ (s.drive b).desired = none ∨
    (s.drive b).position = (s.drive b).desired ∨ (s.bay b).halted = true ∨ (s.drive b).powerTimeout = true := by
  unfold movementNeeded
  simp only [Bool.and_eq_false_iff, Option.isSome_eq_false_iff, Option.isNone_iff_eq_none, bne_eq_false_iff_eq,
    Bool.not_eq_false', or_assoc]

/-- Entry to IDLE where no movement is needed. -/
theorem enterIdle_of_rest {b : BayId} {s : State} (h : (s.drive b).desired = none ∨
    (s.drive b).position = (s.drive b).desired ∨ (s.bay b).halted = true ∨ (s.drive b).powerTimeout = true) :
    enterIdle b s = s.setDrive b { s.drive b with state := .idle, energiseTimer := none, holdTimer := none } := by
  have rest : movementNeeded (s.setDrive b { s.drive b with state := .idle, energiseTimer := none, holdTimer := none }) b =
      false := movementNeeded_eq_false.2 (by rw [State.drive_setDrive_same]; exact h)
  rw [enterIdle, testMovement, if_neg (by simp [rest])]

/-- Entry to IDLE where a movement is needed. -/
theorem enterIdle_of_needed {b : BayId} {s : State} (h : movementNeeded s b = true) : enterIdle b s =
    askPower b (s.setDrive b { s.drive b with state := .idle, energiseTimer := none, holdTimer := none }) := by
  have needed : movementNeeded (s.setDrive b { s.drive b with state := .idle, energiseTimer := none, holdTimer := none }) b =
      true := by
    unfold movementNeeded at h ⊢; dsimp only at h ⊢
    rw [State.drive_setDrive_same]; exact h
  rw [enterIdle, testMovement, if_pos needed]

/-! ### The hold timer of HOLDING -/

theorem completes_driveHold {s : State} (ho : Operating s) {b : BayId} (ht : (s.drive b).holdTimer.isSome = true) :
    Completes (.driveHoldTimerExpiry b) s
      (enterIdle b (releasePower b (s.setDrive b { s.drive b with state := .idle, holdTimer := none }))) := by
  rw [Completes, exec_driveHoldTimerExpiry, execDriveHoldTimerExpiry, operate_of_operating ho, endHolding, if_neg]
  simpa [Option.isSome_iff_ne_none] using ht

/-- Settles O46: the grant released goes to the head of the queue, which is not the drive itself. -/
theorem holdingEndsWithTheGrantReleased : Obligations.HoldingEndsWithTheGrantReleased := by
  intro b s ho ht hb hrest
  have run := completes_driveHold ho ht
  generalize hw : s.setDrive b { s.drive b with state := .idle, holdTimer := none } = w at run
  have wd : w.drive b = { s.drive b with state := .idle, holdTimer := none } := by rw [← hw, State.drive_setDrive_same]
  have wo (o : BayId) (h : o ≠ b) : w.drive o = s.drive o := by rw [← hw, State.drive_setDrive_other _ _ _ _ h]
  have wq : w.grantQueue = s.grantQueue := by rw [← hw]; rfl
  have r : GrantReleased b w (releasePower b w) := grantReleased (by rw [wq]; exact hb)
  have bays : (releasePower b w).bay b = s.bay b := by
    rw [State.bay, r.bays, ← hw]; rfl
  rw [enterIdle_of_rest (by rw [r.own, wd, bays]; exact hrest)] at run
  refine ⟨_, run, ?_, fun hq => ?_, fun first rest hq => ?_, ?_⟩
  · rw [State.drive_setDrive_same, r.own, wd]
  · obtain ⟨queue, others⟩ := r.unclaimed (wq.trans hq)
    exact ⟨queue, fun o h => by rw [State.drive_setDrive_other _ _ _ _ h, others o h, wo o h]⟩
  · have hne : first ≠ b := fun e => hb (by rw [hq, e]; exact List.mem_cons_self)
    obtain ⟨queue, head, others⟩ := r.granted first rest (wq.trans hq)
    refine ⟨queue, ?_, fun o hob hof => ?_⟩
    · rw [State.drive_setDrive_other _ _ _ _ hne, head, wo first hne]
    · rw [State.drive_setDrive_other _ _ _ _ hob, others o hob hof, wo o hob]
  · exact ⟨r.link.trans (by rw [← hw]; rfl), r.targets.trans (by rw [← hw]; rfl), r.bays.trans (by rw [← hw]; rfl),
      r.zones.trans (by rw [← hw]; rfl)⟩

/-! ### The power wait timer -/

theorem completes_powerWait {s : State} (ho : Operating s) {b : BayId} : Completes (.powerWaitTimeout b) s (powerTimeout b s) := by
  rw [Completes, exec_powerWaitTimeout, execPowerWaitTimeout, operate_of_operating ho]

/-- A drive that has waited too long has left the grant queue for IDLE, its mark set (R138). -/
def timedOut (b : BayId) (s : State) : State :=
  (s.setDrive b { s.drive b with state := .idle, powerTimeout := true, waitTimer := none }).setGrantQueue
    (s.grantQueue.filter fun o => o ≠ b)

/-- The raise of a power timeout (R138). -/
def timeoutRaise (b : BayId) (s : State) : Raise :=
  driveRaise b .shadePowerTimeout (if (s.drive b).position.isSome then .complete else .incomplete)
    ((s.drive b).desired.getD 0) (s.grantQueue.filter fun o => o ≠ b).length

theorem filter_bne (b : BayId) (l : List BayId) : (l.filter fun x => x != b) = l.filter fun x => x ≠ b :=
  List.filter_congr fun x _ => by rw [bne, beq_eq_decide, decide_not]

theorem powerTimeout_of_running {b : BayId} {s : State} (h : (s.drive b).waitTimer.isSome = true) :
    powerTimeout b s = raiseFault finish (shadeTarget b) (timeoutRaise b s) (timedOut b s) := by
  have left : leaveQueue b s = (s.setDrive b { s.drive b with waitTimer := none }).setGrantQueue
      (s.grantQueue.filter fun o => o ≠ b) := by rw [leaveQueue, filter_bne]
  have out : ((s.setDrive b { s.drive b with waitTimer := none }).setGrantQueue
      (s.grantQueue.filter fun o => o ≠ b)).setDrive b
        { s.drive b with state := .idle, powerTimeout := true, waitTimer := none } = timedOut b s :=
    congrArg (fun u : State => u.setGrantQueue (s.grantQueue.filter fun o => o ≠ b)) (State.setDrive_setDrive s b _ _)
  unfold powerTimeout; dsimp only
  rw [if_neg (by simpa [Option.isSome_iff_ne_none] using h), left, State.drive_setGrantQueue, State.drive_setDrive_same]
  dsimp only
  rw [out]
  rfl

/-- Settles O47: the raise is recorded, so that its record and its notice are all that follows the timeout. -/
theorem powerTimeoutLeavesTheQueueAndRaises : Obligations.PowerTimeoutLeavesTheQueueAndRaises := by
  intro b s ho ht hf hwin hresp
  have run := completes_powerWait ho (b := b)
  have target : (timedOut b s).target (shadeTarget b) = s.target (shadeTarget b) := rfl
  have outcome : raiseOutcome (timedOut b s) (shadeTarget b) (timeoutRaise b s).cls = .recorded :=
    raiseOutcome_of_report (by rw [target]; exact hwin) hresp
  rw [powerTimeout_of_running ht, raiseFault_recorded outcome] at run
  generalize hg : recordRaise (timedOut b s) (shadeTarget b) (timeoutRaise b s) = f at run
  generalize hn : (timeoutRaise b s).notice (timedOut b s) (shadeTarget b) f = n at run
  obtain ⟨k, hk⟩ := routeFault_eq n
    ((timedOut b s).setTarget (shadeTarget b) { (timedOut b s).target (shadeTarget b) with fault := some f })
  have record : f = ⟨.shadePowerTimeout, .shadePowerTimeout, .bay b, s.seconds, contextAtFault s (shadeTarget b),
      (timeoutRaise b s).completion, (timeoutRaise b s).detail1, (timeoutRaise b s).detail2, [], true, 0, false⟩ := by
    rw [← hg, recordRaise_of_none (show ((timedOut b s).target _).fault = none from hf),
      FaultRecord.addCondition_of_latching rfl]
    rfl
  have ut : (((timedOut b s).setTarget (shadeTarget b)
      { (timedOut b s).target (shadeTarget b) with fault := some f }).setLink k).target (shadeTarget b) =
        { s.target (shadeTarget b) with fault := some f } := by
    rw [State.target_setLink, State.target_setTarget_same, target]
  refine ⟨_, run, ?_⟩
  rw [hk, ut]
  refine ⟨State.drive_setDrive_same s b _, rfl, fun g hg => ?_, rfl, rfl, fun halarm hroom => ?_⟩
  · obtain rfl : f = g := Option.some.inj hg
    rw [record]
    exact ⟨rfl, rfl, rfl, rfl, rfl, rfl, rfl, rfl, rfl, rfl, rfl, fun h => contextAtFault_of_not_active h⟩
  · have routed := routeFault_of_report (n := n) (s := (timedOut b s).setTarget (shadeTarget b)
      { (timedOut b s).target (shadeTarget b) with fault := some f }) (by rw [← hn]; exact outcome)
      (by rw [← hn]; exact halarm)
    rw [hk] at routed
    refine ⟨n, ?_, ?_⟩
    · rw [routed]
      exact if_pos hroom
    · rw [← hn, record]
      refine ⟨rfl, rfl, rfl, outcome, ?_, rfl, rfl, rfl⟩
      show (s.target (shadeTarget b)).fault.isNone = true
      rw [hf]; rfl

end Sys2Proof.Machine
end

section
/-! PROOF. The start of a movement: the energise timer, SHADE HOME, and STOP of the shades (O41, O42, O45). -/

namespace Sys2Proof.Machine

open Sys2Proof

/-! ### The start of a movement -/

/-- A drive that starts a movement: what it counts in the movement starts anew, and the step timer runs (R125). -/
def Drive.started (d : Drive) (interval : Nat) : Drive :=
  { d with firstStep := false, mismatchCount := 0, energiseTimer := none, holdTimer := none, stepTimer := some interval }

/-- A drive in HOMING that has not found HOME active (R126). -/
def Drive.homing (d : Drive) : Drive :=
  { d with state := .homing, homingCount := 0, position := none, phase := .none, verifyStop := none, searchCount := 0,
           verifyAbandoned := false, homingRestart := false }

/-- A drive in MOVING (R127). -/
def Drive.moving (d : Drive) : Drive :=
  { d with state := .moving, phase := .none, verifyStop := none, searchCount := 0, verifyAbandoned := false,
           homingRestart := false }

section
variable {fin : Finisher} {b : BayId} {following : Bool} {s : State}

theorem startMovement_of_unknown (h : (s.drive b).position = none) : startMovement fin b following s =
    enterHoming fin b following (s.setDrive b ((s.drive b).started (stepInterval s b))) := by
  unfold startMovement; dsimp only
  rw [if_pos (by rw [h]; rfl)]; rfl

theorem startMovement_of_known {p : Nat} (h : (s.drive b).position = some p) : startMovement fin b following s =
    enterMoving fin b following (s.setDrive b ((s.drive b).started (stepInterval s b))) := by
  unfold startMovement; dsimp only
  rw [if_neg (by rw [h]; simp)]; rfl

theorem enterHoming_of_clear (h : s.homeIn.get b = false) :
    enterHoming fin b following s = s.setDrive b (s.drive b).homing := by
  unfold enterHoming; dsimp only
  rw [if_neg (by simp [h])]; rfl

/-- HOME active is position 0 at once: the drive goes on in MOVING. -/
theorem enterHoming_of_home (h : s.homeIn.get b = true) : enterHoming fin b following s =
    enterMoving fin b following (s.setDrive b { (s.drive b).homing with position := some 0 }) := by
  unfold enterHoming; dsimp only
  rw [if_pos h]; rfl

theorem enterMoving_of_away (h : (s.drive b).desired = none ∨ (s.drive b).position ≠ (s.drive b).desired) :
    enterMoving fin b following s = s.setDrive b (s.drive b).moving := by
  unfold enterMoving; dsimp only
  rw [if_neg]; · rfl
  rintro ⟨some, same⟩
  rcases h with h | h
  · rw [h] at some; cases some
  · exact h same

theorem enterMoving_of_arrived {p : Nat} (hd : (s.drive b).desired = some p) (hp : (s.drive b).position = some p) :
    enterMoving fin b following s = arrive fin b following (s.setDrive b (s.drive b).moving) := by
  unfold enterMoving; dsimp only
  rw [if_pos ⟨by rw [hd]; rfl, hp.trans hd.symm⟩]; rfl

end

/-! ### The energise timer -/

@[simp] theorem setInputs_drive (b : BayId) (home : Bool) (mark : Option (Fin 15)) (s : State) (x : BayId) :
    (setInputs b home mark s).drive x = s.drive x := rfl

@[simp] theorem setInputs_homeIn (b : BayId) (home : Bool) (mark : Option (Fin 15)) (s : State) :
    (setInputs b home mark s).homeIn.get b = home := get_set_same _ _ _

@[simp] theorem setInputs_markIn (b : BayId) (home : Bool) (mark : Option (Fin 15)) (s : State) :
    (setInputs b home mark s).markIn.get b = mark := get_set_same _ _ _

theorem completes_energise {s : State} (ho : Operating s) (b : BayId) (home : Bool) (mark : Option (Fin 15)) :
    Completes (.energiseTimerExpiry b home mark) s (endEnergising b (setInputs b home mark s)) := by
  rw [Completes, exec_energiseTimerExpiry, execEnergiseTimerExpiry]
  exact operate_of_operating ho

section
variable {b : BayId} {s : State} (ht : (s.drive b).energiseTimer.isSome = true)
include ht

theorem endEnergising_of_rest (h : (s.bay b).halted = true ∨
    ((s.drive b).position.isSome = true ∧ (s.drive b).position = (s.drive b).desired)) :
    endEnergising b s = enterHolding b s := by
  unfold endEnergising; dsimp only
  rw [if_neg (by simpa [Option.isSome_iff_ne_none] using ht), if_pos (by simpa using h)]

theorem endEnergising_of_movement (hh : (s.bay b).halted = false)
    (h : (s.drive b).position = none ∨ (s.drive b).position ≠ (s.drive b).desired) :
    endEnergising b s = startMovement finish b (s.drive b).following s := by
  unfold endEnergising; dsimp only
  rw [if_neg (by simpa [Option.isSome_iff_ne_none] using ht), if_neg]
  rw [hh, Bool.false_or]
  rcases h with h | h
  · simp [h]
  · simp [h]

end

/-- Settles O45: HOLDING, HOMING or MOVING by the lemmas of each entry. -/
theorem energiseExpiryJudgesTheDesiredStop : Obligations.EnergiseExpiryJudgesTheDesiredStop := by
  intro b home mark s ho ht
  have run := completes_energise ho b home mark
  generalize hw : setInputs b home mark s = w at run
  have wd : w.drive b = s.drive b := by rw [← hw]; rfl
  have wb : w.bay b = s.bay b := by rw [← hw]; rfl
  have wh : w.homeIn.get b = home := by rw [← hw]; exact setInputs_homeIn b home mark s
  have wm : w.markIn.get b = mark := by rw [← hw]; exact setInputs_markIn b home mark s
  have wl : w.link = s.link := by rw [← hw]; rfl
  have wt : w.targets = s.targets := by rw [← hw]; rfl
  have ht' : (w.drive b).energiseTimer.isSome = true := by rw [wd]; exact ht
  have interval : stepInterval w b = 1000 / (s.bay b).cfg.stepRate := by rw [stepInterval, wb]
  refine ⟨fun h => ?_, fun hh hp hhome => ?_, fun p hh hp hd => ?_⟩
  · rw [endEnergising_of_rest ht' (by rw [wb, wd]; exact h)] at run
    refine ⟨_, run, ?_⟩
    rw [enterHolding, State.drive_setDrive_same, wd]
    exact ⟨rfl, rfl, rfl, rfl, rfl, wh, wm, wl, wt⟩
  · rw [endEnergising_of_movement ht' (by rw [wb]; exact hh) (.inl (by rw [wd]; exact hp)),
      startMovement_of_unknown (by rw [wd]; exact hp), enterHoming_of_clear (by rw [← hhome]; exact wh)] at run
    refine ⟨_, run, ?_⟩
    rw [State.drive_setDrive_same, State.drive_setDrive_same, interval]
    exact ⟨rfl, rfl, rfl, rfl, rfl, rfl, rfl, wl, wt⟩
  · have away : (w.drive b).position ≠ (w.drive b).desired := by rw [wd, hp]; exact hd.symm
    rw [endEnergising_of_movement ht' (by rw [wb]; exact hh) (.inr away), startMovement_of_known (by rw [wd]; exact hp),
      enterMoving_of_away (.inr (by rw [State.drive_setDrive_same]; exact away))] at run
    refine ⟨_, run, ?_⟩
    rw [State.drive_setDrive_same, State.drive_setDrive_same, interval, wd]
    exact ⟨rfl, rfl, rfl, hp, rfl, rfl, wl, wt⟩

/-! ### STOP of the shades -/

/-- What the halt of its bay makes of a drive by its state (R139). -/
def Drive.haltedAs (d : Drive) : Drive :=
  match d.state with
  | .homing | .moving | .verifying => { d with pendingStop := if d.pendingStop = .off then .off else .halt }
  | .waitPower => { d with state := .idle, energiseTimer := none, holdTimer := none, waitTimer := none }
  | _ => d

theorem DriveState.other {x : DriveState} (h1 : x ≠ .homing) (h2 : x ≠ .moving) (h3 : x ≠ .verifying) (h4 : x ≠ .waitPower) :
    x = .energizing ∨ x = .idle ∨ x = .holding ∨ x = .failed ∨ x = .off := by
  cases x <;> simp_all

/-- A bay without a shade is passed over. -/
theorem haltBay_of_absent {b : BayId} {s : State} (h : (s.bay b).cfg.shadePresent = false) : haltBay b s = s :=
  if_neg (by simp [h])

/-- What a drive in a state that no halt reaches keeps, and what the others become. -/
theorem Drive.haltedAs_eq (d : Drive) :
    (d.state = .homing ∨ d.state = .moving ∨ d.state = .verifying →
      d.haltedAs = { d with pendingStop := if d.pendingStop = .off then .off else .halt }) ∧
    (d.state = .waitPower → d.haltedAs = { d with
      state := .idle, energiseTimer := none, holdTimer := none, waitTimer := none }) ∧
    (d.state = .energizing ∨ d.state = .idle ∨ d.state = .holding ∨ d.state = .failed ∨ d.state = .off →
      d.haltedAs = d) := by
  unfold Drive.haltedAs
  refine ⟨?_, fun h => by rw [h], ?_⟩
  · rintro (h | h | h) <;> rw [h]
  · rintro (h | h | h | h | h) <;> rw [h]

/-- The halt of one bay is its mark, its drive, and the place of a waiting drive in the grant queue. -/
theorem haltBay_of_present {b : BayId} {s : State} (h : (s.bay b).cfg.shadePresent = true) : haltBay b s =
    ((s.setBay b { s.bay b with halted := true }).setDrive b (s.drive b).haltedAs).setGrantQueue
      (if (s.drive b).state = .waitPower then s.grantQueue.filter fun o => o ≠ b else s.grantQueue) := by
  have unmoved : s.setBay b { s.bay b with halted := true } =
      ((s.setBay b { s.bay b with halted := true }).setDrive b (s.drive b)).setGrantQueue s.grantQueue :=
    (State.setDrive_self (s.setBay b { s.bay b with halted := true }) b).symm
  have moving : (if (s.drive b).pendingStop = .off then s.setBay b { s.bay b with halted := true }
      else (s.setBay b { s.bay b with halted := true }).setDrive b { s.drive b with pendingStop := .halt }) =
      ((s.setBay b { s.bay b with halted := true }).setDrive b
        { s.drive b with pendingStop := if (s.drive b).pendingStop = .off then .off else .halt }).setGrantQueue
          s.grantQueue := by
    split
    · rename_i off
      rw [show ({ s.drive b with pendingStop := .off } : Drive) = s.drive b by rw [← off]]
      exact unmoved
    · rfl
  have waiting : enterIdle b (leaveQueue b (s.setBay b { s.bay b with halted := true })) =
      ((s.setBay b { s.bay b with halted := true }).setDrive b { s.drive b with
        state := .idle, energiseTimer := none, holdTimer := none, waitTimer := none }).setGrantQueue
          (s.grantQueue.filter fun o => o ≠ b) := by
    rw [leaveQueue, filter_bne, enterIdle_of_rest (by simp), State.drive_setGrantQueue, State.drive_setDrive_same]
    exact congrArg (fun u : State => u.setGrantQueue (s.grantQueue.filter fun o => o ≠ b))
      (State.setDrive_setDrive (s.setBay b { s.bay b with halted := true }) b _ _)
  obtain ⟨inMotion, waits, others⟩ := (s.drive b).haltedAs_eq
  have go (hs : (s.drive b).state = .homing ∨ (s.drive b).state = .moving ∨ (s.drive b).state = .verifying) :
      (if (s.drive b).state = .waitPower then s.grantQueue.filter fun o => o ≠ b else s.grantQueue) = s.grantQueue :=
    if_neg fun e => by rw [e] at hs; revert hs; decide
  unfold haltBay
  rw [if_pos h]; dsimp only
  rw [State.drive_setBay]
  split
  · rename_i hs; rw [inMotion (.inl hs), go (.inl hs)]; exact moving
  · rename_i hs; rw [inMotion (.inr (.inl hs)), go (.inr (.inl hs))]; exact moving
  · rename_i hs; rw [inMotion (.inr (.inr hs)), go (.inr (.inr hs))]; exact moving
  · rename_i hs; rw [waits hs, if_pos hs]; exact waiting
  · rename_i h1 h2 h3 h4
    rw [others (DriveState.other h1 h2 h3 h4), if_neg h4]; exact unmoved

/-- The bays of a list have been halted, each by its own state before. -/
structure BaysHalted (l : List BayId) (s u : State) : Prop where
  link : u.link = s.link
  zones : u.zones = s.zones
  targets : u.targets = s.targets
  others : ∀ b, b ∉ l ∨ (s.bay b).cfg.shadePresent = false → u.bay b = s.bay b ∧ u.drive b = s.drive b
  halted : ∀ b, b ∈ l → (s.bay b).cfg.shadePresent = true →
    u.bay b = { s.bay b with halted := true } ∧ u.drive b = (s.drive b).haltedAs
  queue : ∀ b, b ∈ u.grantQueue → b ∈ s.grantQueue ∧
    ¬ (b ∈ l ∧ (s.bay b).cfg.shadePresent = true ∧ (s.drive b).state = .waitPower)

theorem haltBay_halts (b : BayId) (s : State) : BaysHalted [b] s (haltBay b s) := by
  rcases hp : (s.bay b).cfg.shadePresent
  · rw [haltBay_of_absent hp]
    have absent (x : BayId) (h : x ∈ [b]) : (s.bay x).cfg.shadePresent ≠ true := by
      rw [List.mem_singleton.1 h, hp]; decide
    exact ⟨rfl, rfl, rfl, fun _ _ => ⟨rfl, rfl⟩, fun x h h' => absurd h' (absent x h),
      fun x h => ⟨h, fun h' => absent x h'.1 h'.2.1⟩⟩
  · rw [haltBay_of_present hp]
    refine ⟨rfl, rfl, rfl, fun x h => ?_, fun x h _ => ?_, fun x h => ?_⟩
    · have hne : x ≠ b := by
        rintro rfl
        rcases h with h | h
        · exact h (List.mem_singleton_self x)
        · rw [hp] at h; cases h
      exact ⟨State.bay_setBay_other _ _ _ _ hne, State.drive_setDrive_other _ _ _ _ hne⟩
    · obtain rfl := List.mem_singleton.1 h
      exact ⟨State.bay_setBay_same _ _ _, State.drive_setDrive_same _ _ _⟩
    · have h' : x ∈ if (s.drive b).state = .waitPower then s.grantQueue.filter fun o => o ≠ b else s.grantQueue := h
      split at h'
      · obtain ⟨mem, hne⟩ := List.mem_filter.1 h'
        exact ⟨mem, fun h => of_decide_eq_true hne (List.mem_singleton.1 h.1)⟩
      · rename_i notWaiting
        exact ⟨h', fun h => notWaiting (by rw [← List.mem_singleton.1 h.1]; exact h.2.2)⟩

theorem BaysHalted.cons {b : BayId} {l : List BayId} {s t u : State} (hb : b ∉ l) (h : BaysHalted [b] s t)
    (k : BaysHalted l t u) : BaysHalted (b :: l) s u := by
  have kept (x : BayId) (hx : x ∈ l) : t.bay x = s.bay x ∧ t.drive x = s.drive x :=
    h.others x (.inl fun e => hb (by rw [← List.mem_singleton.1 e]; exact hx))
  refine ⟨k.link.trans h.link, k.zones.trans h.zones, k.targets.trans h.targets, fun x hx => ?_, fun x hx hp => ?_, fun x hx => ?_⟩
  · have first : t.bay x = s.bay x ∧ t.drive x = s.drive x :=
      h.others x (hx.imp_left fun n e => n (by rw [List.mem_singleton.1 e]; exact List.mem_cons_self))
    have then_ := k.others x (by rw [first.1]; exact hx.imp_left fun n e => n (List.mem_cons_of_mem _ e))
    exact ⟨then_.1.trans first.1, then_.2.trans first.2⟩
  · rcases List.mem_cons.1 hx with rfl | hx
    · obtain ⟨bay, drive⟩ := h.halted x (List.mem_singleton_self x) hp
      obtain ⟨bay', drive'⟩ := k.others x (.inl hb)
      exact ⟨bay'.trans bay, drive'.trans drive⟩
    · obtain ⟨bay, drive⟩ := kept x hx
      rw [← bay, ← drive]
      exact k.halted x hx (by rw [bay]; exact hp)
  · obtain ⟨queued, out⟩ := k.queue x hx
    obtain ⟨queued', out'⟩ := h.queue x queued
    refine ⟨queued', fun ⟨mem, waits⟩ => ?_⟩
    rcases List.mem_cons.1 mem with rfl | mem
    · exact out' ⟨List.mem_singleton_self x, waits⟩
    · exact out ⟨mem, by rw [(kept x mem).1, (kept x mem).2]; exact waits⟩

theorem haltBays {l : List BayId} (hl : l.Nodup) (s : State) : BaysHalted l s (l.foldl (fun s b => haltBay b s) s) := by
  induction l generalizing s with
  | nil => exact ⟨rfl, rfl, rfl, fun _ _ => ⟨rfl, rfl⟩, fun _ h => absurd h List.not_mem_nil,
      fun _ h => ⟨h, fun h' => absurd h'.1 List.not_mem_nil⟩⟩
  | cons b l ih =>
    obtain ⟨hb, hl⟩ := List.nodup_cons.1 hl
    exact (haltBay_halts b s).cons hb (ih hl _)

/-- Settles O41: the halts of the bays do not touch one another. -/
theorem stopShadesHaltsEveryFittedBay : Obligations.StopShadesHaltsEveryFittedBay := by
  intro h s ht
  have run : Completes (.stopShadesNow h) s (takeStopShades h.tag s) := completes_row (c := .stopShadesNow) ht
  have all : BaysHalted (allIds 16) (replied h.tag .ok [0] s) (takeStopShades h.tag s) :=
    haltBays (allIds_nodup 16) _
  refine ⟨_, run, all.link, all.zones, all.targets, fun b => ⟨fun absent => all.others b (.inr absent), fun present => ?_⟩⟩
  obtain ⟨bay, drive⟩ := all.halted b (mem_allIds b) present
  obtain ⟨moving, waiting, others⟩ := (s.drive b).haltedAs_eq
  refine ⟨bay, fun hs => drive.trans (moving hs), fun hs => ?_, fun hs => drive.trans (others hs)⟩
  rw [drive.trans (waiting hs)]
  exact ⟨rfl, rfl, rfl, fun queued => (all.queue b queued).2 ⟨mem_allIds b, present, hs⟩⟩

end Sys2Proof.Machine
end

section
/-! PROOF. SHADE HOME (O42). -/

namespace Sys2Proof.Machine

open Sys2Proof

/-! ### Rest in HOLDING -/

theorem zoneMotionEnd_zones (z : ZoneId) (s : State) : ∃ zs, zoneMotionEnd z s = { s with zones := zs } := by
  unfold zoneMotionEnd; split
  exacts [⟨_, rfl⟩, ⟨s.zones, rfl⟩]

/-- The motion-end report of a drive that follows no fault context reaches zones only (R56). -/
theorem motionEnd_of_unfollowed (fin : Finisher) (b : BayId) (s : State) :
    ∃ zs, motionEnd fin b false s = { s with zones := zs } := by
  have fold (l : List ZoneId) : ∀ s : State, ∃ zs, l.foldl (fun s z => zoneMotionEnd z s) s = { s with zones := zs } := by
    induction l with
    | nil => exact fun s => ⟨s.zones, rfl⟩
    | cons z l ih =>
      intro s
      obtain ⟨zs, hz⟩ := zoneMotionEnd_zones z s
      obtain ⟨zs', hzs⟩ := ih (zoneMotionEnd z s)
      exact ⟨zs', by rw [List.foldl_cons, hzs, hz]⟩
  exact fold (zonesOf b) s

/-- Arrival without verification is HOLDING. -/
theorem arrive_of_unverified {fin : Finisher} {b : BayId} {following : Bool} {s : State}
    (h : (s.bay b).cfg.verify = false ∨ verifyStopOf (stopOf (s.drive b).desired) = none) :
    arrive fin b following s = endInHolding fin b following s := by
  unfold arrive; dsimp only
  split
  · rename_i v hv hs
    rcases h with h | h
    · rw [h] at hv; cases hv
    · rw [h] at hs; cases hs
  · rfl

/-- A drive that ends its movement in HOLDING (R131). -/
def Drive.held (d : Drive) : Drive := { d.atRest with state := .holding, energiseTimer := none, holdTimer := some 9000 }

theorem endInHolding_of_unfollowed (fin : Finisher) (b : BayId) (s : State) :
    ∃ zs, endInHolding fin b false s = { s.setDrive b (s.drive b).held with zones := zs } :=
  motionEnd_of_unfollowed fin b (enterHolding b s)

/-! ### The command -/

theorem operandBay_of_val {x : Byte} {b : BayId} (h : b.val = x.toNat) : operandBay x = some b := operandId_of_val h

theorem operandBay_none {x : Byte} (h : 15 < x.toNat) : operandBay x = none := operandId_of_le h

theorem takeShadeHome_of_bay {tag bay : Byte} {b : BayId} {s : State} (h : b.val = bay.toNat) :
    takeShadeHome tag bay s =
      if (s.target (shadeTarget b)).state ≠ .active then replied tag .notActive [] s
      else if (s.target (shadeTarget b)).locked = true then replied tag .locked [] s
      else homeDrive b (replied tag .ok [] s) := by
  unfold takeShadeHome
  rw [operandBay_of_val h]
  simp only [Bool.not_eq_true', Target.isActive, beq_eq_false_iff_ne]
  rfl

/-- An accepted SHADE HOME first makes the position unknown and clears the marks (R141). -/
def homed (b : BayId) (s : State) : State := clearHalted b (s.setDrive b { s.drive b with position := none, powerTimeout := false })

section
variable (b : BayId) (s : State)

@[simp] theorem homed_drive : (homed b s).drive b = { s.drive b with position := none, powerTimeout := false } :=
  State.drive_setDrive_same s b _

@[simp] theorem homed_bay : (homed b s).bay b = { s.bay b with halted := false } := State.bay_setBay_same _ b _

theorem grantsHeld_homed : grantsHeld (homed b s) = grantsHeld s := by
  rw [homed, clearHalted, grantsHeld_setBay]
  exact grantsHeld_setDrive rfl

variable {b s}

theorem homeDrive_of_homing (h : (s.drive b).state = .homing) : homeDrive b s = (homed b s).setDrive b { s.drive b with
    position := none, powerTimeout := false, homingRestart := true
    pendingStop := if (s.drive b).pendingStop = .halt then .none else (s.drive b).pendingStop } := by
  have e : ((homed b s).drive b).state = .homing := by rw [homed_drive]; exact h
  unfold homeDrive; dsimp only
  rw [show clearHalted b (s.setDrive b { s.drive b with position := none, powerTimeout := false }) = homed b s from rfl, e]
  dsimp only
  rw [homed_drive, ← h]

theorem homeDrive_of_moving (h : (s.drive b).state = .moving ∨ (s.drive b).state = .verifying) :
    homeDrive b s = (homed b s).setDrive b { s.drive b with
      position := none, powerTimeout := false
      pendingStop := if (s.drive b).pendingStop = .off then .off else .rehome } := by
  have off (hp : (s.drive b).pendingStop = .off) : homed b s = (homed b s).setDrive b { s.drive b with
      position := none, powerTimeout := false, pendingStop := .off } := by
    rw [← hp]
    refine (State.setDrive_self (homed b s) b).symm.trans ?_
    rw [homed_drive]
  unfold homeDrive; dsimp only
  rw [show clearHalted b (s.setDrive b { s.drive b with position := none, powerTimeout := false }) = homed b s from rfl]
  rcases h with h | h
  all_goals
    rw [show ((homed b s).drive b).state = _ from (congrArg Drive.state (homed_drive b s)).trans h]; dsimp only
    rw [homed_drive]
    by_cases hp : (s.drive b).pendingStop = .off
    · rw [if_pos hp, if_pos hp]; exact off hp
    · rw [if_neg hp, if_neg hp, ← h]

theorem homeDrive_of_waiting (h : (s.drive b).state = .waitPower ∨ (s.drive b).state = .energizing ∨ (s.drive b).state = .off) :
    homeDrive b s = homed b s := by
  have e : ((homed b s).drive b).state = .waitPower ∨ ((homed b s).drive b).state = .energizing ∨
      ((homed b s).drive b).state = .off := by rw [homed_drive]; exact h
  unfold homeDrive; dsimp only
  rw [show clearHalted b (s.setDrive b { s.drive b with position := none, powerTimeout := false }) = homed b s from rfl]
  rcases e with e | e | e <;> rw [e]

theorem homeDrive_of_resting (h : (s.drive b).state = .idle ∨ (s.drive b).state = .failed) :
    homeDrive b s = enterIdle b (homed b s) := by
  have e : ((homed b s).drive b).state = .idle ∨ ((homed b s).drive b).state = .failed := by rw [homed_drive]; exact h
  unfold homeDrive; dsimp only
  rw [show clearHalted b (s.setDrive b { s.drive b with position := none, powerTimeout := false }) = homed b s from rfl]
  rcases e with e | e <;> rw [e]

theorem homeDrive_of_holding (h : (s.drive b).state = .holding) :
    homeDrive b s = startMovement finish b (s.drive b).following (homed b s) := by
  have e : ((homed b s).drive b).state = .holding := by rw [homed_drive]; exact h
  unfold homeDrive; dsimp only
  rw [show clearHalted b (s.setDrive b { s.drive b with position := none, powerTimeout := false }) = homed b s from rfl, e]
  dsimp only
  rw [homed_drive]

end

/-! ### A drive in HOLDING -/

section
variable {b : BayId} {s : State} (h : (s.drive b).state = .holding)
include h

theorem homeDrive_of_holding_clear (hh : s.homeIn.get b = false) : homeDrive b s = (homed b s).setDrive b
    (({ s.drive b with position := none, powerTimeout := false } : Drive).started (stepInterval s b)).homing := by
  have interval : stepInterval (homed b s) b = stepInterval s b := by unfold stepInterval; rw [homed_bay]
  rw [homeDrive_of_holding h, startMovement_of_unknown (by rw [homed_drive]), enterHoming_of_clear (show ((homed b s).setDrive b _).homeIn.get b = false from hh),
    State.drive_setDrive_same, State.setDrive_setDrive, homed_drive, interval]

/-- A drive that SHADE HOME finds in HOLDING with HOME active, at its top stop (R126). -/
def atTop (b : BayId) (s : State) : State := (homed b s).setDrive b
  { (({ s.drive b with position := none, powerTimeout := false } : Drive).started (stepInterval s b)).homing with
    position := some 0 }

theorem homeDrive_of_holding_home (hh : s.homeIn.get b = true) :
    homeDrive b s = enterMoving finish b (s.drive b).following (atTop b s) := by
  have interval : stepInterval (homed b s) b = stepInterval s b := by unfold stepInterval; rw [homed_bay]
  rw [homeDrive_of_holding h, startMovement_of_unknown (by rw [homed_drive]), enterHoming_of_home (show ((homed b s).setDrive b _).homeIn.get b = true from hh),
    State.drive_setDrive_same, State.setDrive_setDrive, homed_drive, interval]
  rfl

end

theorem enterMoving_atTop {b : BayId} {s : State} (hd : (s.drive b).desired ≠ some 0) :
    enterMoving finish b (s.drive b).following (atTop b s) = (atTop b s).setDrive b ((atTop b s).drive b).moving :=
  enterMoving_of_away (.inr (by rw [atTop, State.drive_setDrive_same]; exact hd.symm))

/-! ### What SHADE HOME leaves -/

/-- Entry to IDLE changes drives and the grant queue only. -/
theorem enterIdle_frame (b : BayId) (s : State) : (enterIdle b s).link = s.link ∧ (enterIdle b s).bays = s.bays ∧
    (enterIdle b s).targets = s.targets ∧ (enterIdle b s).zones = s.zones := by
  unfold enterIdle testMovement askPower giveGrant
  split_ifs <;> exact ⟨rfl, rfl, rfl, rfl⟩

/-- Outside drives, the grant queue and other bays, only the halted mark of a bay has changed: it is clear. -/
structure HaltCleared (b : BayId) (s u : State) : Prop where
  link : u.link = s.link
  bay : u.bay b = { s.bay b with halted := false }
  targets : u.targets = s.targets
  zones : u.zones = s.zones

/-- Short of an arrival at the top stop, SHADE HOME changes the bay's halted mark, drives and the grant queue only. -/
theorem homeDrive_frame {b : BayId} {s : State}
    (hd : (s.drive b).state = .holding → s.homeIn.get b = true → (s.drive b).desired ≠ some 0) :
    HaltCleared b s (homeDrive b s) := by
  have waiting (h : (s.drive b).state = .waitPower ∨ (s.drive b).state = .energizing ∨ (s.drive b).state = .off) :
      HaltCleared b s (homeDrive b s) := by
    rw [homeDrive_of_waiting h]; exact ⟨rfl, homed_bay b s, rfl, rfl⟩
  have moving (h : (s.drive b).state = .moving ∨ (s.drive b).state = .verifying) :
      HaltCleared b s (homeDrive b s) := by
    rw [homeDrive_of_moving h]; exact ⟨rfl, homed_bay b s, rfl, rfl⟩
  have resting (h : (s.drive b).state = .idle ∨ (s.drive b).state = .failed) :
      HaltCleared b s (homeDrive b s) := by
    rw [homeDrive_of_resting h]
    obtain ⟨link, bays, targets, zones⟩ := enterIdle_frame b (homed b s)
    refine ⟨link, ?_, targets, zones⟩
    rw [State.bay, bays]; exact homed_bay b s
  rcases hs : (s.drive b).state
  case off => exact waiting (.inr (.inr hs))
  case idle => exact resting (.inl hs)
  case waitPower => exact waiting (.inl hs)
  case energizing => exact waiting (.inr (.inl hs))
  case homing => rw [homeDrive_of_homing hs]; exact ⟨rfl, homed_bay b s, rfl, rfl⟩
  case moving => exact moving (.inl hs)
  case verifying => exact moving (.inr hs)
  case holding =>
    rcases hh : s.homeIn.get b
    · rw [homeDrive_of_holding_clear hs hh]; exact ⟨rfl, homed_bay b s, rfl, rfl⟩
    · rw [homeDrive_of_holding_home hs hh, enterMoving_atTop (hd hs hh)]; exact ⟨rfl, homed_bay b s, rfl, rfl⟩
  case failed => exact resting (.inr hs)

/-- A drive at rest with a desired stop asks for power. -/
theorem homeDrive_asks {b : BayId} {s : State} (h : (s.drive b).state = .idle ∨ (s.drive b).state = .failed)
    (hd : (s.drive b).desired.isSome = true) :
    (grantsHeld s < 4 → ((homeDrive b s).drive b).state = .energizing ∧ ((homeDrive b s).drive b).grant = true ∧
      ((homeDrive b s).drive b).position = none) ∧
    (4 ≤ grantsHeld s → ((homeDrive b s).drive b).state = .waitPower ∧ ((homeDrive b s).drive b).position = none ∧
      (homeDrive b s).grantQueue = s.grantQueue ++ [b]) := by
  have needed : movementNeeded (homed b s) b = true := by
    obtain ⟨stop, hstop⟩ := Option.isSome_iff_exists.1 hd
    simp [movementNeeded, hstop]
  have grants : grantsHeld ((homed b s).setDrive b { (homed b s).drive b with
      state := .idle, energiseTimer := none, holdTimer := none }) = grantsHeld s :=
    (grantsHeld_setDrive (by rfl)).trans (grantsHeld_homed b s)
  rw [homeDrive_of_resting h, enterIdle_of_needed needed]
  refine ⟨fun hg => ?_, fun hg => ?_⟩
  · rw [askPower_of_free (by rw [grants]; exact hg), giveGrant, State.drive_setDrive_same, State.drive_setDrive_same, homed_drive]
    exact ⟨rfl, rfl, rfl⟩
  · rw [askPower_of_none (by rw [grants]; exact hg), State.drive_setGrantQueue, State.drive_setDrive_same,
      State.drive_setDrive_same, homed_drive]
    exact ⟨rfl, rfl, rfl⟩

/-- A drive at its top stop that is its desired stop, with verify off, is back in HOLDING. -/
theorem homeDrive_of_arrived {b : BayId} {s : State} (hs : (s.drive b).state = .holding) (hh : s.homeIn.get b = true)
    (hd : (s.drive b).desired = some 0) (hv : (s.bay b).cfg.verify = false) (hf : (s.drive b).following = false) :
    ∃ zs, homeDrive b s =
      { (atTop b s).setDrive b ((atTop b s).drive b).moving.held with zones := zs } := by
  have top : (atTop b s).drive b = { (({ s.drive b with position := none, powerTimeout := false } : Drive).started
      (stepInterval s b)).homing with position := some 0 } := State.drive_setDrive_same _ _ _
  have unverified : (((atTop b s).setDrive b ((atTop b s).drive b).moving).bay b).cfg.verify = false := by
    rw [State.bay_setDrive, atTop, State.bay_setDrive, homed_bay]; exact hv
  obtain ⟨zs, held⟩ := endInHolding_of_unfollowed finish b ((atTop b s).setDrive b ((atTop b s).drive b).moving)
  rw [State.drive_setDrive_same, State.setDrive_setDrive] at held
  refine ⟨zs, ?_⟩
  rw [homeDrive_of_holding_home hs hh, hf, enterMoving_of_arrived (by rw [top]; exact hd) (by rw [top]),
    arrive_of_unverified (.inl unverified), held]

/-- Settles O42: the checks, then the drive's state. -/
theorem shadeHomeActsByDriveState : Obligations.ShadeHomeActsByDriveState := by
  intro h bay s ht
  have run : Completes (.shadeHome h bay) s (takeShadeHome h.tag bay s) := completes_row (c := .shadeHome bay) ht
  refine ⟨fun hb => run.of_eq (by unfold takeShadeHome; rw [operandBay_none hb]; rfl), fun b hb => ?_⟩
  rw [takeShadeHome_of_bay hb] at run
  refine ⟨fun ha => ?_, fun ha hl => ?_, fun ha hl => ?_⟩
  · rwa [if_pos ha] at run
  · rwa [if_neg (not_not.2 ha), if_pos hl] at run
  rw [if_neg (not_not.2 ha), if_neg (by simp [hl])] at run
  have first : RepliesFirst h.tag .ok [] s (homeDrive b (replied h.tag .ok [] s)) :=
    RepliesFirst.of_within rfl ((Within.refl _).homeDrive b)
  refine ⟨⟨_, run, first⟩, fun hd => ⟨_, run, ?_⟩, fun hs hh hd hv hf => ⟨_, run, ?_⟩⟩
  · obtain ⟨link, bay, targets, zones⟩ := homeDrive_frame (s := replied h.tag .ok [] s) hd
    refine ⟨link, bay, targets, zones, fun hs => ?_, fun hs => ?_, fun hs => ?_,
      fun hs hsome => homeDrive_asks (s := replied h.tag .ok [] s) hs hsome, fun hs hh => ?_, fun hs hh => ?_⟩
    · rw [homeDrive_of_homing (s := replied h.tag .ok [] s) hs, State.drive_setDrive_same]; rfl
    · rw [homeDrive_of_moving (s := replied h.tag .ok [] s) hs, State.drive_setDrive_same]; rfl
    · rw [homeDrive_of_waiting (s := replied h.tag .ok [] s) (hs.imp_right .inl), homed_drive]; rfl
    · rw [homeDrive_of_holding_clear (s := replied h.tag .ok [] s) hs hh, State.drive_setDrive_same]
      exact ⟨rfl, rfl, rfl, rfl, rfl, rfl, rfl⟩
    · rw [homeDrive_of_holding_home (s := replied h.tag .ok [] s) hs hh, enterMoving_atTop (s := replied h.tag .ok [] s) (hd hs hh),
        State.drive_setDrive_same, atTop, State.drive_setDrive_same]
      exact ⟨rfl, rfl, rfl, rfl⟩
  · obtain ⟨zs, held⟩ := homeDrive_of_arrived (s := replied h.tag .ok [] s) hs hh hd hv hf
    rw [held]
    have drive : ((atTop b (replied h.tag .ok [] s)).setDrive b
        ((atTop b (replied h.tag .ok [] s)).drive b).moving.held).drive b =
          ((atTop b (replied h.tag .ok [] s)).drive b).moving.held := State.drive_setDrive_same _ _ _
    have top := State.drive_setDrive_same (homed b (replied h.tag .ok [] s)) b
      { (({ s.drive b with position := none, powerTimeout := false } : Drive).started
        (stepInterval (replied h.tag .ok [] s) b)).homing with position := some 0 }
    refine ⟨congrArg Drive.state drive, ?_, congrArg Drive.holdTimer drive, congrArg Drive.stepTimer drive,
      congrArg Bay.halted (homed_bay b (replied h.tag .ok [] s))⟩
    exact (congrArg Drive.position drive).trans (congrArg Drive.position top)

end Sys2Proof.Machine
end

section
/-! PROOF. The step event (O43, O44). -/

namespace Sys2Proof.Machine

open Sys2Proof

theorem completes_step {s : State} (ho : Operating s) (b : BayId) (home : Bool) (mark : Option (Fin 15)) :
    Completes (.stepEvent b home mark) s (stepEvent finish b (setInputs b home mark s)) := by
  rw [Completes, exec_stepEvent, execStepEvent]
  exact operate_of_operating ho

/-! ### The frame of a step event -/

/-- A step event begins with the STEP output low (R118). -/
def unpulsed (b : BayId) (s : State) : State := s.setDrive b { s.drive b with stepPulse := false }

section
variable {fin : Finisher} {b : BayId} {s t : State} (ht : (s.drive b).stepTimer.isSome = true)
  (ha : stepAction fin b (unpulsed b s) = t)
include ht ha

/-- A drive still in motion starts its step timer again. -/
theorem stepEvent_of_motion (hm : (t.drive b).state.inMotion = true) :
    stepEvent fin b s = t.setDrive b { t.drive b with stepTimer := some (stepInterval t b) } := by
  subst ha
  unfold stepEvent; dsimp only
  rw [if_neg (by simpa [Option.isSome_iff_ne_none] using ht)]
  exact if_pos hm

theorem stepEvent_of_rest (hm : (t.drive b).state.inMotion = false) : stepEvent fin b s = t := by
  subst ha
  unfold stepEvent; dsimp only
  rw [if_neg (by simpa [Option.isSome_iff_ne_none] using ht)]
  exact if_neg (by simpa [unpulsed] using hm)

end

section
variable {fin : Finisher} {b : BayId} {s : State} (hp : (s.drive b).pendingStop = .none)
include hp

/-- Without a pending stop the drive acts by its state. -/
theorem stepAction_of_no_stop :
    ((s.drive b).state = .moving → stepAction fin b s = stepMoving fin b (s.drive b).following s) ∧
    ((s.drive b).state = .homing → stepAction fin b s = stepHoming fin b (s.drive b).following s) := by
  have same : s.setDrive b { s.drive b with pendingStop := .none } = s := by
    rw [← hp]; exact State.setDrive_self s b
  unfold stepAction; dsimp only
  rw [hp, if_neg (by simp), same]
  exact ⟨fun h => by rw [h], fun h => by rw [h]⟩

end

/-! ### Motion-start -/

theorem mem_zonesOf {b : BayId} {z : ZoneId} : z ∈ zonesOf b ↔ bayOf z = b := by
  simp only [zonesOf, bayOf, List.mem_cons, List.not_mem_nil, or_false, Fin.ext_iff]
  omega

theorem zonesOf_nodup (b : BayId) : (zonesOf b).Nodup := by
  simp [zonesOf, Fin.ext_iff]

/-- What the motion-start report of the first step of a movement makes of the zones' records; a later step makes no report. -/
def MotionTold (b : BayId) (s : State) (zs : Vector Zone 48) : Prop :=
  ((s.drive b).firstStep = true ∧ zs = s.zones) ∨
    ((s.drive b).firstStep = false ∧ NoZoneCalibrating s ∧ ∀ z, zs.get z =
      if bayOf z = b ∧ (s.target (zoneTarget z)).state = .active then { s.zone z with settling := true, settleTimer := none }
      else s.zone z)

theorem vector_ext {α : Type} {n : Nat} {v w : Vector α n} (h : ∀ i : Fin n, v.get i = w.get i) : v = w :=
  Vector.ext fun i hi => by simpa [Vector.get_eq_getElem] using h ⟨i, hi⟩

theorem reportMotionStart_told {fin : Finisher} {b : BayId} {s : State} {zs : Vector Zone 48} (h : MotionTold b s zs) :
    reportMotionStart fin b s = { s.setDrive b { s.drive b with firstStep := true } with zones := zs } := by
  unfold reportMotionStart; dsimp only
  rcases h with ⟨hf, rfl⟩ | ⟨hf, hn, hz⟩
  · rw [if_pos hf, ← hf]
    exact (State.setDrive_self s b).symm
  · rw [if_neg (by simp [hf])]
    obtain ⟨zs', fold, written⟩ := motionStart_zones (zonesOf b) (zonesOf_nodup b)
      (s.setDrive b { s.drive b with firstStep := true })
    rw [fold, show zs' = zs from vector_ext fun z => by
      rw [written z, hz z]; simp only [mem_zonesOf]; rfl]
    unfold seqMotionStart calibratingIn
    rw [show ({ s.setDrive b { s.drive b with firstStep := true } with zones := zs } : State).sweep.current = none from hn]

theorem MotionTold.setDrive {b : BayId} {s : State} {zs : Vector Zone 48} (h : MotionTold b s zs) {r : Drive}
    (hf : r.firstStep = (s.drive b).firstStep) : MotionTold b (s.setDrive b r) zs := by
  have e : ((s.setDrive b r).drive b).firstStep = (s.drive b).firstStep := by rw [State.drive_setDrive_same, hf]
  unfold MotionTold
  rw [e]
  exact h

/-! ### One step -/

/-- The drive after a step in a direction to position `p`, with the mark of the first step (R118, R125). -/
def Drive.stepped (d : Drive) (dir : Direction) (p : Option Nat) : Drive :=
  { d with position := p, dir := dir, stepPulse := true, firstStep := true }

theorem Drive.stepped_eq {d : Drive} {dir : Direction} {p : Option Nat} (h : (d.step dir).position = p) :
    { d.step dir with firstStep := true } = d.stepped dir p := by
  subst h; rfl

theorem homeCheck_of_clear {s : State} {b : BayId} {q : Nat} (hp : (s.drive b).position = some q)
    (hh : s.homeIn.get b = false) (h0 : q ≠ 0) : homeCheck s b = none := by
  unfold homeCheck; dsimp only
  rw [hp]; simp [hh, h0]

/-- A step toward the desired stop, before the arrival, with HOME where the count says. -/
theorem stepMoving_of_going {fin : Finisher} {b : BayId} {following : Bool} {s : State} {zs : Vector Zone 48} {p stop q : Nat}
    (hp : (s.drive b).position = some p) (hd : (s.drive b).desired = some stop) (hm : MotionTold b s zs)
    (hh : s.homeIn.get b = false) (hne : p ≠ stop) (hq : q ≠ stop) (h0 : q ≠ 0)
    (hstep : ((s.drive b).step (toward p stop)).position = some q) : stepMoving fin b following s =
      { s.setDrive b ((s.drive b).stepped (toward p stop) (some q)) with zones := zs } := by
  have told := reportMotionStart_told (fin := fin) (hm.setDrive (r := (s.drive b).step (toward p stop)) rfl)
  rw [State.drive_setDrive_same, State.setDrive_setDrive, Drive.stepped_eq hstep] at told
  generalize hw : ({ s.setDrive b ((s.drive b).stepped (toward p stop) (some q)) with zones := zs } : State) = w at told ⊢
  have at_ : (w.drive b).position = some q := by
    rw [← hw]; exact congrArg Drive.position (State.drive_setDrive_same s b ((s.drive b).stepped (toward p stop) (some q)))
  unfold stepMoving; dsimp only
  rw [hp, hd]; dsimp only
  rw [if_neg hne, told, afterHomeCheck, homeCheck_of_clear at_ (by rw [← hw]; exact hh) h0]
  dsimp only
  rw [at_, if_neg (by simpa using hq)]

/-- A step in HOMING with an unknown position, counted. -/
def Drive.homingStep (d : Drive) : Drive :=
  { d with dir := .raising, stepPulse := true, firstStep := true, homingCount := d.homingCount + 1 }

/-- A drive whose search in HOMING has found HOME active, on its way in MOVING. -/
theorem Drive.foundHome_eq {d : Drive} (hr : d.homingRestart = false) (timer : Timer) :
    { d with
      state := .moving, position := some 0, homingCount := d.homingCount + 1, dir := .raising, stepPulse := true
      firstStep := true, phase := .none, verifyStop := none, searchCount := 0, verifyAbandoned := false
      stepTimer := timer } =
    { ({ ({ d with stepPulse := false } : Drive).homingStep with position := some 0 } : Drive).moving with
      stepTimer := timer } := by
  cases d; cases hr; rfl

theorem Drive.homingStep_eq {d : Drive} (hp : d.position = none) (hr : d.homingRestart = false) :
    { { d.step .raising with homingCount := d.homingCount + 1, homingRestart := false } with firstStep := true } =
      d.homingStep := by
  cases d; cases hp; cases hr; rfl

/-- A step in HOMING before its limit: HOME active ends the search at position 0. -/
theorem stepHoming_of_searching {fin : Finisher} {b : BayId} {following : Bool} {s : State} {zs : Vector Zone 48}
    (hp : (s.drive b).position = none) (hr : (s.drive b).homingRestart = false) (hm : MotionTold b s zs) :
    (s.homeIn.get b = false → (s.drive b).homingCount + 1 < 255 → stepHoming fin b following s =
      { s.setDrive b (s.drive b).homingStep with zones := zs }) ∧
    (s.homeIn.get b = true → stepHoming fin b following s = enterMoving fin b following
      { s.setDrive b { (s.drive b).homingStep with position := some 0 } with zones := zs }) := by
  have told := reportMotionStart_told (fin := fin) (hm.setDrive (r := { (s.drive b).step .raising with
    homingCount := (s.drive b).homingCount + 1, homingRestart := false }) rfl)
  rw [State.drive_setDrive_same, State.setDrive_setDrive, Drive.homingStep_eq hp hr] at told
  have count : (if (s.drive b).homingRestart = true then 0 else (s.drive b).homingCount) = (s.drive b).homingCount :=
    if_neg (by simp [hr])
  unfold stepHoming; dsimp only
  rw [count, told]
  generalize hw : ({ s.setDrive b (s.drive b).homingStep with zones := zs } : State) = w
  have homeIn : w.homeIn = s.homeIn := by rw [← hw]; rfl
  have drive : w.drive b = (s.drive b).homingStep := by rw [← hw]; exact State.drive_setDrive_same s b _
  have write (r : Drive) : w.setDrive b r = { s.setDrive b r with zones := zs } := by
    rw [← hw]; exact congrArg (fun u : State => ({ u with zones := zs } : State)) (State.setDrive_setDrive s b _ r)
  refine ⟨fun hh hc => ?_, fun hh => ?_⟩
  · rw [homeIn, if_neg (by simp [hh])]
    exact if_pos hc
  · rw [homeIn, if_pos hh, drive, write]

/-! ### The event whole -/

section
variable {b : BayId} {home : Bool} {mark : Option (Fin 15)} {s : State}

/-- The part as a step event finds it: the inputs at their levels and the STEP output low. -/
def atEvent (b : BayId) (home : Bool) (mark : Option (Fin 15)) (s : State) : State := unpulsed b (setInputs b home mark s)

@[simp] theorem atEvent_drive : (atEvent b home mark s).drive b = { s.drive b with stepPulse := false } :=
  State.drive_setDrive_same _ b _

theorem MotionTold.atEvent {zs : Vector Zone 48} (h : MotionTold b s zs) : MotionTold b (atEvent b home mark s) zs :=
  MotionTold.setDrive (s := setInputs b home mark s) h rfl

end

section
variable {b : BayId} {home : Bool} {mark : Option (Fin 15)} {s told : State}
  (htold : told = { setInputs b home mark s with zones := told.zones })
include htold

theorem atEvent_told (r : Drive) :
    ({ (atEvent b home mark s).setDrive b r with zones := told.zones } : State) = told.setDrive b r := by
  rw [atEvent, unpulsed, State.setDrive_setDrive]
  conv_rhs => rw [htold]
  rfl

/-- A step event that leaves the drive in motion starts its step timer again. -/
theorem completes_step_of_motion (ho : Operating s) (ht : (s.drive b).stepTimer.isSome = true) {r r' : Drive}
    (ha : stepAction finish b (atEvent b home mark s) = told.setDrive b r) (hr : r.state.inMotion = true)
    (hr' : r' = { r with stepTimer := some (1000 / (s.bay b).cfg.stepRate) }) :
    Completes (.stepEvent b home mark) s (told.setDrive b r') := by
  have interval : stepInterval (told.setDrive b r) b = 1000 / (s.bay b).cfg.stepRate := by
    rw [stepInterval, State.bay_setDrive, htold]; rfl
  refine (completes_step ho b home mark).of_eq ?_
  rw [stepEvent_of_motion (s := setInputs b home mark s) ht ha (by rw [State.drive_setDrive_same]; exact hr), interval,
    State.drive_setDrive_same, State.setDrive_setDrive, hr']

variable {stop : Nat} (hp : (s.drive b).pendingStop = .none) (hd : (s.drive b).desired = some stop)
  (hm : MotionTold b s told.zones)
include hp hd hm

/-- A step event in MOVING before the arrival is one step. -/
theorem stepAction_of_going {p q : Nat} (hs : (s.drive b).state = .moving) (hpos : (s.drive b).position = some p)
    (hhome : home = false) (hne : p ≠ stop) (hq : q ≠ stop) (h0 : q ≠ 0)
    (hstep : (({ s.drive b with stepPulse := false } : Drive).step (toward p stop)).position = some q) :
    stepAction finish b (atEvent b home mark s) = told.setDrive b
      (({ s.drive b with stepPulse := false } : Drive).stepped (toward p stop) (some q)) := by
  have homeIn : (atEvent b home mark s).homeIn.get b = false := (setInputs_homeIn b home mark s).trans hhome
  obtain ⟨moving, -⟩ := stepAction_of_no_stop (fin := finish) (s := atEvent b home mark s) (b := b)
    (by rw [atEvent_drive]; exact hp)
  rw [moving (by rw [atEvent_drive]; exact hs), stepMoving_of_going (by rw [atEvent_drive]; exact hpos)
    (by rw [atEvent_drive]; exact hd) hm.atEvent homeIn hne hq h0 (by rw [atEvent_drive]; exact hstep), atEvent_told htold,
    atEvent_drive]

/-- A step event in HOMING before its limit is one step counted; HOME active sends the drive on in MOVING. -/
theorem stepAction_of_searching (hs : (s.drive b).state = .homing) (hpos : (s.drive b).position = none)
    (hr : (s.drive b).homingRestart = false) :
    (home = false → (s.drive b).homingCount + 1 < 255 → stepAction finish b (atEvent b home mark s) =
      told.setDrive b ({ s.drive b with stepPulse := false } : Drive).homingStep) ∧
    (home = true → stop ≠ 0 → stepAction finish b (atEvent b home mark s) = told.setDrive b
      ({ ({ s.drive b with stepPulse := false } : Drive).homingStep with position := some 0 } : Drive).moving) := by
  have homeIn : (atEvent b home mark s).homeIn.get b = home := setInputs_homeIn b home mark s
  obtain ⟨-, homing⟩ := stepAction_of_no_stop (fin := finish) (s := atEvent b home mark s) (b := b)
    (by rw [atEvent_drive]; exact hp)
  obtain ⟨clear, found⟩ := stepHoming_of_searching (fin := finish) (s := atEvent b home mark s)
    (following := ((atEvent b home mark s).drive b).following) (by rw [atEvent_drive]; exact hpos) (by rw [atEvent_drive]; exact hr) hm.atEvent
  rw [homing (by rw [atEvent_drive]; exact hs)]
  refine ⟨fun hhome hc => ?_, fun hhome hstop => ?_⟩
  · rw [clear (homeIn.trans hhome) (by rw [atEvent_drive]; exact hc), atEvent_told htold, atEvent_drive]
  · rw [found (homeIn.trans hhome), atEvent_told htold, atEvent_drive, enterMoving_of_away, State.drive_setDrive_same,
      State.setDrive_setDrive]
    refine .inr ?_
    rw [State.drive_setDrive_same]
    show some 0 ≠ (s.drive b).desired
    rw [hd]; simpa using hstop.symm

end

/-- Settles O43: the step by `stepAction_of_going` and `stepAction_of_searching`, with the motion-start report told. -/
theorem stepEventMovesOneStop : Obligations.StepEventMovesOneStop := by
  intro b home mark stop s ho ht hp hd told htold hm
  refine ⟨fun p hs hpos => ⟨fun hlow hhome => ?_, fun hhigh hhome => ?_⟩,
    fun hs hpos hr => ⟨fun hhome hc => ?_, fun hhome hstop => ?_⟩⟩
  · have down : toward p stop = .lowering := if_pos (by omega)
    have act := stepAction_of_going htold hp hd hm (q := p + 1) hs hpos hhome (by omega) (by omega) (by omega)
      (by rw [down, Drive.step, hpos]; rfl)
    rw [down] at act
    exact completes_step_of_motion htold ho ht act (by rw [Drive.stepped, hs]; rfl) rfl
  · have up : toward p stop = .raising := if_neg (by omega)
    have act := stepAction_of_going htold hp hd hm (q := p - 1) hs hpos hhome (by omega) (by omega) (by omega)
      (by rw [up, Drive.step, hpos]; rfl)
    rw [up] at act
    exact completes_step_of_motion htold ho ht act (by rw [Drive.stepped, hs]; rfl) rfl
  · exact completes_step_of_motion htold ho ht ((stepAction_of_searching htold hp hd hm hs hpos hr).1 hhome hc)
      (by rw [Drive.homingStep, hs]; rfl) rfl
  · exact completes_step_of_motion htold ho ht ((stepAction_of_searching htold hp hd hm hs hpos hr).2 hhome hstop) rfl
      (Drive.foundHome_eq hr _)

end Sys2Proof.Machine
end

section
/-! PROOF. Arrival and verification (O44). -/

namespace Sys2Proof.Machine

open Sys2Proof

/-- A drive that begins the verification of its arrival at a mark stop (R128). -/
def Drive.verifyingAt (d : Drive) (v : Nat) : Drive :=
  { d with state := .verifying, phase := .seek, verifyStop := some v, searchCount := 0, verifyAbandoned := false }

section
variable {fin : Finisher} {b : BayId} {following : Bool} {s : State}

theorem arrive_of_verified {v : Nat} (hv : (s.bay b).cfg.verify = true)
    (hs : verifyStopOf (stopOf (s.drive b).desired) = some v) :
    arrive fin b following s = judgeMark fin b following (s.setDrive b ((s.drive b).verifyingAt v)) := by
  unfold arrive; dsimp only
  rw [hv, hs]; rfl

/-- No mark at the start of a search leaves the search at its start. -/
theorem judgeMark_of_unmarked (hm : s.markIn.get b = none) (hc : (s.drive b).searchCount < 12) :
    judgeMark fin b following s = s := by
  have searching : ¬ Config.searchLimit ≤ (s.drive b).searchCount := Nat.not_le.2 hc
  unfold judgeMark; dsimp only
  rw [hm]
  cases (s.drive b).verifyStop <;> exact if_neg searching

/-- The mark of the verify stop confirms a desired stop that is that stop. -/
theorem judgeMark_of_confirmed {v : Nat} {n : Fin 15} (hv : (s.drive b).verifyStop = some v)
    (hm : s.markIn.get b = some n) (hn : n.val = v / 16) (hp : (s.drive b).position = some v)
    (hd : (s.drive b).desired = some v) : judgeMark fin b following s = endInHolding fin b following s := by
  unfold judgeMark; dsimp only
  rw [hv, hm]; dsimp only
  rw [if_pos ⟨hn, hp⟩, if_pos hd]

theorem stepMoving_of_arrived {p : Nat} (hp : (s.drive b).position = some p) (hd : (s.drive b).desired = some p) :
    stepMoving fin b following s = arrive fin b following s := by
  unfold stepMoving; dsimp only
  rw [hp, hd]; exact if_pos rfl

end

/-- The mark stop nearest to a stop, of two equally near the lower, up to the last mark stop 224 (R128). -/
theorem verifyStopOf_nearest {d v : Nat} (h : (d % 16 = 0 ∧ d ≤ 224 ∧ v = d) ∨
    (1 ≤ d % 16 ∧ d % 16 ≤ 8 ∧ d ≤ 232 ∧ v = d - d % 16) ∨ (9 ≤ d % 16 ∧ d < 224 ∧ v = d + (16 - d % 16))) :
    verifyStopOf d = some v := by
  have hv : 16 * ((d + 7) / 16) = v := by omega
  rw [verifyStopOf, hv, if_pos (by omega)]

theorem verifyStopOf_beyond {d : Nat} (h : 233 ≤ d) : verifyStopOf d = none := if_neg (by omega)

section
variable {b : BayId} {home : Bool} {mark : Option (Fin 15)} {s : State} {d : Nat}
  (hs : (s.drive b).state = .moving) (hp : (s.drive b).pendingStop = .none) (hpos : (s.drive b).position = some d)
  (hd : (s.drive b).desired = some d)
include hs hp hpos hd

/-- A step event in MOVING at the desired stop is an arrival. -/
theorem stepAction_of_arrived : stepAction finish b (atEvent b home mark s) =
    arrive finish b (s.drive b).following (atEvent b home mark s) := by
  obtain ⟨moving, -⟩ := stepAction_of_no_stop (fin := finish) (s := atEvent b home mark s) (b := b)
    (by rw [atEvent_drive]; exact hp)
  rw [moving (by rw [atEvent_drive]; exact hs), stepMoving_of_arrived (by rw [atEvent_drive]; exact hpos)
    (by rw [atEvent_drive]; exact hd), atEvent_drive]

/-- An arrival that goes to HOLDING ends the movement. -/
theorem completes_step_of_held (ho : Operating s) (ht : (s.drive b).stepTimer.isSome = true) {x : State}
    (hx : arrive finish b false (atEvent b home mark s) = endInHolding finish b false x)
    (hxd : (x.drive b).position = some d) (hf : (s.drive b).following = false) :
    ∃ u, Completes (.stepEvent b home mark) s u ∧ u.drive b = (x.drive b).held ∧ (u.drive b).position = some d := by
  obtain ⟨zs, held⟩ := endInHolding_of_unfollowed finish b x
  have act := stepAction_of_arrived (home := home) (mark := mark) hs hp hpos hd
  rw [hf, hx, held] at act
  have drive : ({ x.setDrive b (x.drive b).held with zones := zs } : State).drive b = (x.drive b).held :=
    State.drive_setDrive_same x b _
  refine ⟨_, (completes_step ho b home mark).of_eq (stepEvent_of_rest (s := setInputs b home mark s) ht act ?_), drive, ?_⟩
  · rw [drive]; rfl
  · rw [drive]; exact hxd

end

/-- Settles O44: the verify stop by `verifyStopOf_nearest`, then the first judgement of MARK. -/
theorem verificationChoosesTheNearestMark : Obligations.VerificationChoosesTheNearestMark := by
  intro b home d s ho hle hs ht hp hpos hd hv
  have act (mark : Option (Fin 15)) := stepAction_of_arrived (home := home) (mark := mark) hs hp hpos hd
  have verify (mark : Option (Fin 15)) : ((atEvent b home mark s).bay b).cfg.verify = true := hv
  have desired (mark : Option (Fin 15)) : stopOf ((atEvent b home mark s).drive b).desired = d := by
    rw [atEvent_drive, stopOf, hd]; rfl
  have marked (mark : Option (Fin 15)) (r : Drive) : ((atEvent b home mark s).setDrive b r).markIn.get b = mark :=
    setInputs_markIn b home mark s
  have starts {mark : Option (Fin 15)} {v : Nat} (h : verifyStopOf d = some v) (following : Bool) :
      arrive finish b following (atEvent b home mark s) = judgeMark finish b following
        ((atEvent b home mark s).setDrive b (({ s.drive b with stepPulse := false } : Drive).verifyingAt v)) := by
    rw [arrive_of_verified (verify mark) (by rw [desired]; exact h), atEvent_drive]
  refine ⟨fun v hnear => ?_, fun hbeyond mark hf => ?_, fun n hn hf => ?_⟩
  · have begun := (act none).trans (starts (verifyStopOf_nearest hnear) _)
    rw [judgeMark_of_unmarked (marked none _) (by rw [State.drive_setDrive_same]; exact Nat.zero_lt_succ _),
      atEvent, unpulsed, State.setDrive_setDrive] at begun
    exact completes_step_of_motion (told := setInputs b home none s) rfl ho ht begun rfl rfl
  · have unverified : arrive finish b false (atEvent b home mark s) = endInHolding finish b false (atEvent b home mark s) :=
      arrive_of_unverified (.inr (by rw [desired]; exact verifyStopOf_beyond hbeyond))
    obtain ⟨u, run, drive, at_⟩ := completes_step_of_held hs hp hpos hd ho ht unverified
      (by rw [atEvent_drive]; exact hpos) hf
    exact ⟨u, run, by rw [drive]; rfl, by rw [drive]; rfl, by rw [drive]; rfl, by rw [drive]; rfl, at_⟩
  · have confirmed := (starts (mark := some n) (verifyStopOf_nearest (v := d) (.inl ⟨by omega, by omega, rfl⟩)) false).trans
      (judgeMark_of_confirmed (v := d) (by rw [State.drive_setDrive_same]; rfl) (marked (some n) _) (by omega)
        (by rw [State.drive_setDrive_same]; exact hpos) (by rw [State.drive_setDrive_same]; exact hd))
    obtain ⟨u, run, drive, at_⟩ := completes_step_of_held hs hp hpos hd ho ht confirmed
      (by rw [State.drive_setDrive_same]; exact hpos) hf
    exact ⟨u, run, by rw [drive]; rfl, by rw [drive]; rfl, by rw [drive]; rfl, at_⟩

end Sys2Proof.Machine
end

section
/-! PROOF. RELEASE, and the hold and wait timers of a request (O33, O34). -/

namespace Sys2Proof.Machine

open Sys2Proof

/-! ### What stands on the stacks and the list -/

theorem holderOf_eq_none {s : State} {i : Nat} (h : ∀ t, ∀ c ∈ (s.target t).above, c.identity ≠ some i) :
    holderOf s i = none := by
  unfold holderOf
  rw [List.find?_eq_none]
  intro t _ hany
  obtain ⟨c, hc, hi⟩ := List.any_eq_true.1 hany
  exact h t c hc (by simpa using hi)

theorem filter_identity (i : Nat) (l : List Context) :
    (l.filter fun c => c.identity != some i) = l.filter fun c => c.identity ≠ some i :=
  List.filter_congr fun x _ => by rw [bne, beq_eq_decide, decide_not]

theorem dropEntry_eq (i : Nat) (s : State) :
    dropEntry i s = s.setPendingList (s.pendingList.filter fun e => e.identity ≠ i) := by
  rw [dropEntry, List.filter_congr fun (x : Entry) _ => by rw [bne, beq_eq_decide, ← decide_not]]

/-- Dropping the one element of a list that fails `keep`. -/
theorem filter_drop {α : Type} {keep : α → Bool} {before after : List α} {c : α} (hc : keep c = false)
    (h : ∀ x ∈ before ++ after, keep x = true) : (before ++ c :: after).filter keep = before ++ after := by
  rw [List.filter_append, List.filter_cons_of_neg (by simp [hc]), ← List.filter_append]
  exact List.filter_eq_self.2 h

/-- An offer for a target without entries in a state with the same Pending List. -/
theorem offer_of_unlisted {s u : State} {t : TargetId} (h : NoEntries s t) (hp : u.pendingList = s.pendingList) :
    offer t u = u := offer_of_noEntries (by unfold NoEntries; rw [hp]; exact h)

/-! ### Removals from a stack -/

section
variable {s : State} {t : TargetId} {keep : Context → Bool}

/-- A removal that leaves the active context opens no window. -/
theorem removeContexts_of_kept {c : Context} {rest : List Context} (h : (s.target t).above = c :: rest) (hk : keep c = true) :
    removeContexts t keep s = s.setTarget t { s.target t with above := (s.target t).above.filter keep } := by
  have same : ((s.target t).window || (topUnlockedFault ((s.target t).above.filter keep) && !topFault (s.target t).above)) =
      (s.target t).window := by
    rw [h, List.filter_cons_of_pos hk]
    have unlocked : topUnlockedFault (c :: rest.filter keep) = (c.origin == .fault && !c.locked) := rfl
    have fault : topFault (c :: rest) = (c.origin == .fault) := rfl
    rw [unlocked, fault]
    cases c.origin == .fault <;> cases c.locked <;> simp
  unfold removeContexts; dsimp only
  rw [same]

/-- A claim that removes only contexts beneath the active one ends with nothing handed on. -/
theorem finish_of_kept {c : Context} {rest : List Context} (h : (s.target t).above = c :: rest) (hk : keep c = true) {u : State}
    (hu : u.target t = { s.target t with above := (s.target t).above.filter keep }) (hn : NoZoneCalibrating s)
    (hs : u.sweep = s.sweep) : finish t (s.active t) u = u := by
  refine finish_of_same (by unfold NoZoneCalibrating; rw [hs]; exact hn) ?_
  unfold State.active Target.active
  rw [hu, h, List.filter_cons_of_pos hk]

/-- A context that a removal exposes has none of the removed identities. -/
theorem exposed_identity {i : Nat} {r : Target} (h : ∀ c ∈ r.above, c.identity ≠ some i) : r.active.identity ≠ some i := by
  unfold Target.active
  rcases e : r.above with _ | ⟨c, rest⟩
  · exact nofun
  · exact h c (by rw [e]; exact List.mem_cons_self)

/-- The end of a claim that has removed the active HOST context of identity `i` and made its notices: the exposed context is
handed on. -/
theorem finish_removed {i : Nat} {r : Target} {k : LinkPort} {v : State} (hv : v = (s.setTarget t r).setLink k)
    (hi : (s.active t).identity = some i) (hr : ∀ c ∈ r.above, c.identity ≠ some i) (q : ExposedQuietly s t r)
    (hn : NoZoneCalibrating s) :
    HandedOn s (finish t (s.active t) v) t r ∧ (finish t (s.active t) v).link = noticesLink (changeNotice t r) k := by
  have changed : sameContext (s.active t) r.active = false :=
    sameContext_of_identity (by rw [hi]; exact (exposed_identity hr).symm)
  subst hv
  obtain ⟨handed, link, -, -⟩ := finish_exposed (s := (s.setTarget t r).setLink k) (State.target_setTarget_same s t r) q changed hn
  exact ⟨handed.of_claim (fun x hx => State.target_setTarget_other s t r x hx) rfl (fun _ _ => ⟨rfl, rfl⟩) rfl, link⟩

end

/-! ### RELEASE -/

/-- Settles O33: the holder of the identity, then the removal beneath or of the active context. -/
theorem releaseRemovesTheIdentity : Obligations.ReleaseRemovesTheIdentity := by
  intro h identity s ht
  have run : Completes (.release h identity) s (takeRelease h.tag identity s) := completes_row (c := .release identity) ht
  refine ⟨fun hfree => run.of_eq ?_, fun hstack hlist => run.of_eq ?_, fun t hmem hone => ?_⟩
  · have unlisted : ¬ (s.pendingList.any fun e => e.identity == identity.toNat) = true := by
      intro e
      obtain ⟨x, hx, hi⟩ := List.any_eq_true.1 e
      exact hfree (.inr ⟨x, hx, by simpa using hi⟩)
    unfold takeRelease
    rw [holderOf_eq_none fun t c hc hi => hfree (.inl ⟨t, c, hc, hi⟩)]
    dsimp only
    rw [if_neg unlisted]
    rfl
  · unfold takeRelease
    rw [holderOf_eq_none hstack]
    dsimp only
    rw [if_pos (List.any_eq_true.2 (by simpa using hlist)), dropEntry_eq]
    rfl
  · have released : takeRelease h.tag identity s =
        finish t (s.active t) (removeIdentity t identity.toNat (replied h.tag .ok [] s)) := by
      unfold takeRelease; rw [holderOf_eq hmem hone]; rfl
    rw [released] at run
    refine ⟨⟨_, run, RepliesFirst.of_within rfl (finish_within (((Within.refl _).removeContexts t _).offer t) t _)⟩,
      fun hentries hn above habove => ?_⟩
    generalize hv : replied h.tag .ok [] s = v at run ⊢
    have vt : v.target t = s.target t := by rw [← hv]; rfl
    have va : v.active t = s.active t := by rw [← hv]; rfl
    have vn : NoZoneCalibrating v := by rw [← hv]; exact hn
    have kept : (v.target t).above.filter (fun c => c.identity != some identity.toNat) = above := by
      rw [vt, habove, filter_identity]
    obtain ⟨c, rest, hcr⟩ : ∃ c rest, (s.target t).above = c :: rest := by
      obtain ⟨c, hc, -⟩ := hmem
      exact List.exists_cons_of_ne_nil (List.ne_nil_of_mem hc)
    have active : s.active t = c := by unfold State.active Target.active; rw [hcr]
    refine ⟨fun hother => run.of_eq ?_, fun hid horigin window r hr hw q => ⟨_, run, ?_⟩⟩
    · have keep : (c.identity != some identity.toNat) = true := by rw [← active]; simpa using hother
      have removed : removeIdentity t identity.toNat v = v.setTarget t { v.target t with
          above := (v.target t).above.filter fun c => c.identity != some identity.toNat } := by
        rw [removeIdentity, removeContexts_of_kept (vt ▸ hcr) keep]
        exact offer_of_unlisted hentries (by rw [← hv]; rfl)
      rw [removed, ← va, finish_of_kept (vt ▸ hcr) keep (State.target_setTarget_same _ _ _) vn (by rfl), kept, vt]
    · have removed : removeIdentity t identity.toNat v = v.setTarget t r := by
        rw [removeIdentity, removeContexts_exposing (r := r) (w := window) (by rw [vt]; exact hw)
          (by rw [hr, kept, vt]) (by rw [va]; exact horigin) (by rw [← hv]; exact q)]
        exact offer_of_unlisted hentries (by rw [← hv]; rfl)
      have gone (x : Context) (hx : x ∈ r.above) : x.identity ≠ some identity.toNat := by
        have : x ∈ above := by rw [hr] at hx; exact hx
        rw [habove] at this
        exact of_decide_eq_true (List.mem_filter.1 this).2
      obtain ⟨handed, link⟩ := finish_removed (s := v) (k := v.link) (v := v.setTarget t r) rfl (by rw [va]; exact hid) gone
        (by rw [← hv]; exact q) vn
      rw [removed, ← va]
      rw [notedAll_eq]
      exact ⟨handed.of_claim (fun x _ => by rw [← hv]; rfl) (by rw [← hv]; rfl) (fun z _ => by rw [← hv]; exact ⟨rfl, rfl⟩)
        (by rw [← hv]; rfl), link⟩

/-! ### The wait timer -/

theorem completes_wait {s : State} (ho : Operating s) (identity : Half) :
    Completes (.waitExpiry identity) s (takeWaitExpiry identity.toNat s) := by
  rw [Completes, exec_waitExpiry, execWaitExpiry, operate_of_operating ho]

theorem completes_hold {s : State} (ho : Operating s) (identity : Half) :
    Completes (.holdExpiry identity) s (takeHoldExpiry identity.toNat s) := by
  rw [Completes, exec_holdExpiry, execHoldExpiry, operate_of_operating ho]

/-- A wait expiry takes the one entry of its identity off the list. -/
theorem takeWaitExpiry_of_entry {i : Nat} {s : State} {before after : List Entry} {e : Entry}
    (hl : s.pendingList = before ++ e :: after) (hi : e.identity = i) (hw : e.wait.isSome = true)
    (hone : ∀ x ∈ before ++ after, x.identity ≠ i) : takeWaitExpiry i s =
      noticed (.requestState i e.target e.level .expired) (s.setPendingList (before ++ after)) := by
  have found : (s.pendingList.find? fun e => e.identity == i && e.wait.isSome) = some e := by
    rw [hl, List.find?_eq_some_iff_append]
    exact ⟨by simp [hi, hw], before, after, rfl, fun x hx => by simp [hone x (List.mem_append_left _ hx)]⟩
  have dropped : dropEntry i s = s.setPendingList (before ++ after) := by
    rw [dropEntry_eq, hl, filter_drop (by simp [hi]) fun x hx => by simpa using hone x hx]
  unfold takeWaitExpiry
  rw [found]; dsimp only
  rw [dropped, entryNotice, offerNotice_eq_noticed, hi]

/-! ### The hold timer -/

section
variable {i : Nat} {s : State} {t : TargetId} {before after : List Context} {c : Context}
  (hl : (s.target t).above = before ++ c :: after) (hi : c.identity = some i)
  (hone : ∀ x ∈ before ++ after, x.identity ≠ some i)
include hl hi hone

/-- A hold expiry removes the one context of its identity, with ENDED, and makes an offer. -/
theorem takeHoldExpiry_of_context (hh : c.hold.isSome = true)
    (hothers : ∀ t', t' ≠ t → ∀ x ∈ (s.target t').above, x.identity ≠ some i) : takeHoldExpiry i s =
      finish t (s.active t) (offer t ((removeContexts t (fun c => c.identity != some i) s).setLink
        (noticeLink (.requestState i t c.level .ended) s.link))) := by
  have holder : holderOf s i = some t := holderOf_eq ⟨c, by rw [hl]; simp, hi⟩ hothers
  have running : runningHold s t i = some c := by
    unfold runningHold
    rw [hl, List.find?_eq_some_iff_append]
    exact ⟨by simp [hi, hh], before, after, rfl, fun x hx => by simp [hone x (List.mem_append_left _ hx)]⟩
  unfold takeHoldExpiry
  rw [holder]; dsimp only
  rw [running]; dsimp only
  rw [contextNotice_eq, hi]
  rfl

theorem filter_held : (s.target t).above.filter (fun c => c.identity != some i) = before ++ after := by
  rw [hl]
  exact filter_drop (by simp [hi]) fun x hx => by simpa using hone x hx

end

/-- Settles O34: the entry or the context that the identity names, then the removal beneath or of the active context. -/
theorem holdAndWaitExpiriesEndARequest : Obligations.HoldAndWaitExpiriesEndARequest := by
  intro identity s ho
  refine ⟨fun before e after hl hi hw hone => (completes_wait ho identity).of_eq (takeWaitExpiry_of_entry hl hi hw hone),
    fun t before c after hl hi hh hone hothers ended hended => ?_⟩
  have run := completes_hold ho identity
  rw [takeHoldExpiry_of_context hl hi hone hh hothers, ← hended] at run
  have filtered := filter_held hl hi hone
  refine ⟨⟨_, run, fun hroom => ?_⟩, fun hentries hn => ⟨fun hbefore => run.of_eq ?_, fun hbefore horigin window r hr hw q =>
    ⟨_, run, ?_⟩⟩⟩
  · have grown := (finish_within ((Within.refl ((removeContexts t (fun c => c.identity != some identity.toNat) s).setLink
      (noticeLink ended s.link))).offer t) t (s.active t)).grown
    rw [← show (noticeLink ended s.link).reports = s.link.reports ++ [ended] by rw [noticeLink, if_pos hroom]]
    exact grown
  · obtain ⟨x, rest, rfl⟩ := List.exists_cons_of_ne_nil hbefore
    have keep : (x.identity != some identity.toNat) = true := by simpa using hone x (by simp)
    rw [removeContexts_of_kept hl keep, offer_of_unlisted hentries (by rfl),
      finish_of_kept hl keep (by rw [State.target_setLink, State.target_setTarget_same]) hn (by rfl), filtered, noticed_eq]
    rfl
  · subst hbefore
    have active : s.active t = c := by unfold State.active Target.active; rw [hl]; rfl
    rw [removeContexts_exposing (r := r) hw (by rw [filtered]; exact hr) (by rw [active]; exact horigin) q,
      offer_of_unlisted hentries (by rfl)]
    obtain ⟨handed, link⟩ := finish_removed (s := s) rfl (by rw [active]; exact hi)
      (fun x hx => hone x (by rw [hr] at hx; exact hx)) q hn
    exact ⟨handed, by rw [notedAll_eq]; exact link⟩

end Sys2Proof.Machine
end

section
/-! PROOF. CLEAR FAULT (O36). -/

namespace Sys2Proof.Machine

open Sys2Proof

/-! ### CLEAR FAULT -/

theorem clearRecord_eq (t : TargetId) (cause : ClearCause) (f : FaultRecord) (s : State) : clearRecord t cause f s =
    noticed (.faultCleared t cause f.firstClass f.superseded) (s.setTarget t { s.target t with fault := none }) :=
  offerNotice_eq_noticed _ _

theorem homingAttempt_of_unfailed {t : TargetId} {s : State} (h : ∀ b, t = shadeTarget b → (s.drive b).state ≠ .failed) :
    homingAttempt t s = s := by
  rcases target_cases t with ⟨z, rfl⟩ | ⟨b, rfl⟩
  · rw [homingAttempt, viewTarget_zoneTarget]
  · rw [homingAttempt, viewTarget_shadeTarget]
    exact if_neg (h b rfl)

/-- CLEAR FAULT of a record: its deletion, the removal claim, and the homing attempt (R113). -/
theorem takeClearFault_of_record {tag target : Byte} {t : TargetId} {f : FaultRecord} {s : State} (ht : t.val = target.toNat)
    (hf : (s.target t).fault = some f) : takeClearFault tag target s = homingAttempt t (finish t (s.active t)
      (removalClaim t (clearRecord t .command f (replied tag .ok [] s)))) := by
  unfold takeClearFault
  rw [operandTarget_of_val ht]; dsimp only
  rw [hf]; rfl

/-- Settles O36: what follows the deletion stays within it, and nothing does where no fault context stands. -/
theorem clearFaultDeletesTheRecord : Obligations.ClearFaultDeletesTheRecord := by
  intro h target s hs
  have run : Completes (.clearFault h target) s (takeClearFault h.tag target s) := completes_row (c := .clearFault target) hs
  refine ⟨fun hb => run.of_eq ?_, fun t ht => ⟨fun hnone => run.of_eq ?_, fun f hf => ?_⟩⟩
  · unfold takeClearFault; rw [operandTarget_none hb]; rfl
  · unfold takeClearFault; rw [operandTarget_of_val ht]; dsimp only; rw [hnone]; rfl
  · rw [takeClearFault_of_record ht hf] at run
    have deleted : Within (replied h.tag .ok [] s) (clearRecord t .command f (replied h.tag .ok [] s)) :=
      (Within.refl _).clearRecord t _ f
    have after : Within (clearRecord t .command f (replied h.tag .ok [] s)) (homingAttempt t (finish t (s.active t)
        (removalClaim t (clearRecord t .command f (replied h.tag .ok [] s))))) :=
      (finish_within ((Within.refl _).removalClaim t) t _).homingAttempt t
    refine ⟨⟨_, run, RepliesFirst.of_within rfl (deleted.trans after), fun hroom => ?_⟩, fun hno hn hdrive => run.of_eq ?_⟩
    · have reports : (clearRecord t .command f (replied h.tag .ok [] s)).link.reports = s.link.reports ++
          [.reply h.tag .ok s.link.flags [], .faultCleared t .command f.firstClass f.superseded] := by
        have room : (s.link.reports ++ [Record.reply h.tag .ok s.link.flags []]).length < 64 := by
          rw [List.length_append]; exact hroom
        rw [clearRecord_eq, noticed_eq]
        refine (congrArg LinkPort.reports (if_pos room)).trans ?_
        exact List.append_assoc _ _ _
      rw [← reports]
      exact after.grown
    · have without : (s.target t).hasFaultContext = false := by
        simpa [Target.hasFaultContext] using hno
      generalize hv : clearRecord t .command f (replied h.tag .ok [] s) = v
      have vt : v.target t = { s.target t with fault := none } := by
        rw [← hv, clearRecord_eq, noticed_eq]; exact State.target_setTarget_same _ _ _
      have claim : removalClaim t v = v := by
        rw [removalClaim, if_neg]
        rw [vt]
        exact fun e => Bool.false_ne_true (without.symm.trans e)
      have unchanged : finish t (s.active t) v = v := by
        refine finish_of_same ?_ ?_
        · rw [← hv, clearRecord_eq, noticed_eq]; exact hn
        · unfold State.active; rw [vt]; rfl
      have drives (b : BayId) : v.drive b = s.drive b := by rw [← hv, clearRecord_eq, noticed_eq]; rfl
      rw [claim, unchanged, homingAttempt_of_unfailed fun b e => by rw [drives]; exact hdrive b e, ← hv, clearRecord_eq]
      rfl

end Sys2Proof.Machine
end

section
/-! PROOF. The requests for a zone that are placed at once (O31). -/

namespace Sys2Proof.Machine

open Sys2Proof

/-! ### The placement -/

/-- The active context of a target whose stack has been written. -/
theorem active_cons {r : Target} {c : Context} {rest : List Context} (h : r.above = c :: rest) : r.active = c := by
  unfold Target.active; rw [h]

section
variable {tag : Byte} {t : TargetId} {kind : Kind} {p : RequestPayload} {s : State}

/-- A REQUEST at the active level takes the place of the active HOST context. -/
theorem placeRequest_replaces {old : Context} {rest : List Context} (hl : (s.target t).active.level = p.level.toNat)
    (ha : (s.target t).above = old :: rest) : placeRequest tag t kind p s = finish t (s.target t).active
      (((replied tag .accepted [] s).setTarget t { s.target t with above := p.contextOf kind :: rest }).setLink
        (noticesLink (old.identity.toList.map fun i => .requestState i t old.level .displaced)
          (replied tag .accepted [] s).link)) := by
  have replaced : replaceActive t (p.contextOf kind) (replied tag .accepted [] s) =
      ((replied tag .accepted [] s).setTarget t { s.target t with above := p.contextOf kind :: rest }).setLink
        (noticesLink (old.identity.toList.map fun i => .requestState i t old.level .displaced)
          (replied tag .accepted [] s).link) := by
    unfold replaceActive; dsimp only
    rw [show (replied tag .accepted [] s).target t = s.target t from rfl, ha]
    exact contextNotice_eq _ _ _ _
  unfold placeRequest; dsimp only
  rw [requestEntry_context, if_pos (show (requestEntry s t kind p).level = _ from hl.symm), ← replaced]
  rfl

/-- A REQUEST beneath the active level, with room and no window in its way, is pushed. -/
theorem placeRequest_pushes (hl : p.level.toNat < (s.target t).active.level) (hroom : (s.target t).above.length < 4)
    (hw : (s.target t).window = false ∨ p.level = 0) : placeRequest tag t kind p s = finish t (s.target t).active
      (pushClaim t (p.contextOf kind) (replied tag .accepted [] s)) := by
  have window : (s.target t).window = false ∨ (requestEntry s t kind p).level = 0 :=
    hw.imp_right fun h => by show p.level.toNat = 0; rw [h]; rfl
  unfold placeRequest; dsimp only
  rw [requestEntry_context, if_neg (show ¬ (requestEntry s t kind p).level = _ from Nat.ne_of_lt hl),
    if_pos ⟨show (requestEntry s t kind p).level < _ from hl, hroom, window⟩]
  rfl

end

theorem Within.notedAll {s t : State} (h : Within s t) (rs : List Record) : Within s (notedAll rs t) :=
  Within.foldl (f := fun u r => noticed r u)
    (fun s u r h => offerNotice_eq_noticed r u ▸ (h.offerNotice r : Within s (Machine.offerNotice r u))) rs t h

/-! ### A zone under the context of a request -/

/-- The hand-off of a context to a zone that raises nothing, as one change of the part. -/
theorem finish_handed {z : ZoneId} {c : Context} {rest : List Context} {r : Target} {before : Context} {v w : State} {k : LinkPort}
    (hr : r.above = c :: rest) (ha : r.state = .active) (ho : c.origin ≠ .fault) (hc : sameContext before c = false)
    (hm : c.kind = .fix ∨ (v.zone z).source ≠ .none ∨ (v.zone z).measureLost = true)
    (hw : w = (v.setTarget (zoneTarget z) r).setLink k) : ∃ l0 l1, finish (zoneTarget z) before w =
      checkPreempted (finishClaim 5) { ((v.setTarget (zoneTarget z) r).setLink (noticesLink (changeNotice (zoneTarget z) r) k)).setZone z
        ((v.zone z).takeContext c) with lineL0 := l0, lineL1 := l1 } := by
  have wt : w.target (zoneTarget z) = r := by rw [hw, State.target_setLink, State.target_setTarget_same]
  have active : w.active (zoneTarget z) = c := by unfold State.active; rw [wt, active_cons hr]
  have noted : noteChange (zoneTarget z) w =
      (v.setTarget (zoneTarget z) r).setLink (noticesLink (changeNotice (zoneTarget z) r) k) := by
    rw [noteChange_eq, wt, hw]; rfl
  obtain ⟨l0, l1, put⟩ := putZone_eq z ((v.zone z).takeContext c)
    ((v.setTarget (zoneTarget z) r).setLink (noticesLink (changeNotice (zoneTarget z) r) k))
  refine ⟨l0, l1, ?_⟩
  rw [finish_of_changed (by rw [wt]; exact ha) (by rw [active]; exact hc), noted, handTarget, viewTarget_zoneTarget]
  refine congrArg (checkPreempted (finishClaim 5)) ((handZone_quiet
    (s := (v.setTarget (zoneTarget z) r).setLink (noticesLink (changeNotice (zoneTarget z) r) k)) (c := c) ?_ hm (.inl ho)).trans put)
  unfold State.active
  rw [State.target_setLink, State.target_setTarget_same, active_cons hr]

/-- From `s` to `u` zone `z` has taken the context `c` on its target's new record `r`, and no other target or zone, no drive and
no entry has changed. -/
structure ZoneTook (s u : State) (z : ZoneId) (r : Target) (c : Context) : Prop where
  targets : u.targets = (s.setTarget (zoneTarget z) r).targets
  zones : u.zones = (s.setZone z ((s.zone z).takeContext c)).zones
  entries : u.pendingList = s.pendingList
  drives : u.drives = s.drives

section
variable {s u : State} {z : ZoneId} {r : Target} {c : Context}

theorem ZoneTook.target (h : ZoneTook s u z r c) : u.target (zoneTarget z) = r := by
  rw [State.target, h.targets]; exact State.target_setTarget_same s _ r

theorem ZoneTook.others (h : ZoneTook s u z r c) {t : TargetId} (ht : t ≠ zoneTarget z) : u.target t = s.target t := by
  rw [State.target, h.targets]; exact State.target_setTarget_other s _ r t ht

theorem ZoneTook.zone (h : ZoneTook s u z r c) : u.zone z = (s.zone z).takeContext c := by
  rw [State.zone, h.zones]; exact State.zone_setZone_same s z _

theorem ZoneTook.otherZones (h : ZoneTook s u z r c) {y : ZoneId} (hy : y ≠ z) : u.zone y = s.zone y := by
  rw [State.zone, h.zones]; exact State.zone_setZone_other s z _ y hy

end

/-- A stack without CALIBRATE context lets the zone go. -/
theorem hasCalibrate_eq_false {s : State} {z : ZoneId} (h : ∀ c ∈ (s.target (zoneTarget z)).above, c.origin ≠ .calibrate) :
    hasCalibrate s z = false := by
  simpa [hasCalibrate] using h

section
variable {s v w : State} {z : ZoneId} {c : Context} {rest : List Context} {r : Target} {before : Context} {k : LinkPort}
  (hr : r.above = c :: rest) (ha : r.state = .active) (ho : c.origin = .host) (hc : sameContext before c = false)
  (hm : c.kind = .fix ∨ (v.zone z).source ≠ .none ∨ (v.zone z).measureLost = true)
  (hw : w = (v.setTarget (zoneTarget z) r).setLink k)
include hr ha ho hc hm hw

/-- With no zone being calibrated the hand-off is all. -/
theorem finish_hosted_of_none (hn : NoZoneCalibrating v) : ∃ u, finish (zoneTarget z) before w = u ∧ ZoneTook v u z r c ∧
    u.link = noticesLink (changeNotice (zoneTarget z) r) k ∧ u.bays = v.bays ∧ u.sweep = v.sweep := by
  obtain ⟨l0, l1, e⟩ := finish_handed hr ha (by rw [ho]; decide) hc hm hw
  exact ⟨_, e.trans (checkPreempted_of_none hn), ⟨rfl, rfl, rfl, rfl⟩, rfl, rfl, rfl⟩

/-- The zone that was being calibrated is ABANDONED, and the sweep ends with it. -/
theorem finish_hosted_of_calibrating {cause : SweepCause} (hcur : v.sweep.current = some z) (hend : EndsWith v z cause)
    (hcal : ∀ x ∈ rest, x.origin ≠ .calibrate) : ∃ u, finish (zoneTarget z) before w = u ∧ ZoneTook v u z r c ∧
      u.link = noticesLink [.sweepProgress ⟨z, .abandoned, none, v.sweep.restartUsed, v.sweep.m0, v.sweep.m1, none, none⟩,
          .sweepEnd cause v.sweep.first v.sweep.last (v.sweep.counts.add .abandoned)]
        (noticesLink (changeNotice (zoneTarget z) r) k) ∧
      u.bays = (v.setBay (bayOf z) { v.bay (bayOf z) with frozen := false }).bays ∧
      u.sweep = sweepOver v.sweep (v.sweep.counts.add .abandoned) := by
  obtain ⟨l0, l1, e⟩ := finish_handed hr ha (by rw [ho]; decide) hc hm hw
  have gone : hasCalibrate ({ ((v.setTarget (zoneTarget z) r).setLink (noticesLink (changeNotice (zoneTarget z) r) k)).setZone z
      ((v.zone z).takeContext c) with lineL0 := l0, lineL1 := l1 } : State) z = false := by
    refine hasCalibrate_eq_false ?_
    rw [show ({ ((v.setTarget (zoneTarget z) r).setLink (noticesLink (changeNotice (zoneTarget z) r) k)).setZone z
      ((v.zone z).takeContext c) with lineL0 := l0, lineL1 := l1 } : State).target (zoneTarget z) = r from
        State.target_setTarget_same v _ r, hr]
    intro x hx
    rcases List.mem_cons.1 hx with rfl | hx
    · rw [ho]; decide
    · exact hcal x hx
  exact ⟨_, e.trans (checkPreempted_ends hcur gone hend), ⟨rfl, rfl, rfl, rfl⟩, rfl, rfl, rfl⟩

/-- Either no zone is being calibrated, or the sweep ends with this one: what has ended, and what the sweep and the bays are. -/
theorem finish_hosted_ending {ended : List Record} (still : (NoZoneCalibrating v ∧ ended = []) ∨
    ∃ cause, v.sweep.current = some z ∧ EndsWith v z cause ∧ (∀ x ∈ rest, x.origin ≠ .calibrate) ∧
      ended = [.sweepProgress ⟨z, .abandoned, none, v.sweep.restartUsed, v.sweep.m0, v.sweep.m1, none, none⟩,
        .sweepEnd cause v.sweep.first v.sweep.last (v.sweep.counts.add .abandoned)]) :
    ∃ u, finish (zoneTarget z) before w = u ∧ ZoneTook v u z r c ∧
      u.link = noticesLink ended (noticesLink (changeNotice (zoneTarget z) r) k) ∧
      (ended = [] → u.sweep = v.sweep ∧ u.bays = v.bays) ∧
      (ended ≠ [] → u.sweep = sweepOver v.sweep (v.sweep.counts.add .abandoned) ∧
        u.bays = (v.setBay (bayOf z) { v.bay (bayOf z) with frozen := false }).bays) := by
  rcases still with ⟨hn, rfl⟩ | ⟨cause, hcur, hend, hcal, rfl⟩
  · obtain ⟨u, hu, took, link, bays, sweep⟩ := finish_hosted_of_none hr ha ho hc hm hw hn
    exact ⟨u, hu, took, link, fun _ => ⟨sweep, bays⟩, absurd rfl⟩
  · obtain ⟨u, hu, took, link, bays, sweep⟩ := finish_hosted_of_calibrating hr ha ho hc hm hw hcur hend hcal
    exact ⟨u, hu, took, link, fun hn => absurd hn (by simp), fun _ => ⟨sweep, bays⟩⟩

end

/-- Settles O31: the stack by the case of its active context, then the hand-off, and the sweep where it loses its zone. -/
theorem requestFixesAZone : Obligations.RequestFixesAZone := by
  intro h p z kind s hs hp hk hm r hr counts hcounts above window displaced ended hcase
  have run : Completes (.request h p) s (takeRequest h.tag p s) := completes_row (c := .request p) hs
  rw [takeRequest_passes hp hk] at run
  obtain ⟨-, hact, -, -, -, hfree, -⟩ := hp
  subst hr hcounts
  let v := replied h.tag .accepted [] s
  obtain ⟨rest, habove, placed⟩ : ∃ rest, above = p.contextOf kind :: rest ∧ placeRequest h.tag (zoneTarget z) kind p s =
      finish (zoneTarget z) (s.target (zoneTarget z)).active
        ((v.setTarget (zoneTarget z) { s.target (zoneTarget z) with above := above, window := window }).setLink
          (noticesLink displaced v.link)) := by
    rcases hcase with ⟨-, -, hlevel, rfl, old, rest, hold, rfl, rfl⟩ | ⟨hlevel, hroom, hw, rfl,
      ⟨-, -, rfl, (⟨ho, rfl⟩ | ⟨ho, rfl⟩ | ⟨ho, rfl, hn⟩)⟩ | ⟨x, rest, cause, hcal, hend, hn, rfl, rfl, -⟩⟩
    · exact ⟨rest, rfl, placeRequest_replaces hlevel hold⟩
    · refine ⟨_, rfl, (placeRequest_pushes hlevel hroom hw).trans ?_⟩
      rw [pushClaim_plain (s := replied h.tag .accepted [] s) (by rfl) (.inl ho)]; rfl
    · refine ⟨_, rfl, (placeRequest_pushes hlevel hroom hw).trans ?_⟩
      rw [pushClaim_plain (s := replied h.tag .accepted [] s) (by rfl) (.inr ho)]; rfl
    · refine ⟨_, rfl, (placeRequest_pushes hlevel hroom hw).trans ?_⟩
      rw [pushClaim_fault (s := replied h.tag .accepted [] s) (by rfl) ho hn]; rfl
    · refine ⟨_, rfl, (placeRequest_pushes hlevel hroom hw).trans ?_⟩
      rw [pushClaim_calibrate (s := replied h.tag .accepted [] s) (by rfl) hcal.top rfl hn]; rfl
  have changed : sameContext (s.target (zoneTarget z)).active (p.contextOf kind) = false :=
    sameContext_of_identity (identity_active hfree)
  generalize hR : ({ s.target (zoneTarget z) with above := above, window := window } : Target) = R at *
  have still : (NoZoneCalibrating s ∧ ended = []) ∨
      ∃ cause, s.sweep.current = some z ∧ EndsWith s z cause ∧ (∀ x ∈ rest, x.origin ≠ .calibrate) ∧
        ended = [.sweepProgress ⟨z, .abandoned, none, s.sweep.restartUsed, s.sweep.m0, s.sweep.m1, none, none⟩,
          .sweepEnd cause s.sweep.first s.sweep.last (s.sweep.counts.add .abandoned)] := by
    rcases hcase with ⟨hn, he, -⟩ | ⟨-, -, -, -, ⟨hn, he, -⟩ | ⟨x, below, cause, hcal, hend, -, -, hbelow, he⟩⟩
    · exact .inl ⟨hn, he⟩
    · exact .inl ⟨hn, he⟩
    · have same : below = rest := List.tail_eq_of_cons_eq (hbelow.symm.trans habove)
      exact .inr ⟨cause, hcal.current, hend, same ▸ hcal.beneath, he⟩
  obtain ⟨u, hu, took, hlink, quiet, ending⟩ := finish_hosted_ending (v := v) (r := R) (before := s.active (zoneTarget z))
    (by rw [← hR]; exact habove) (by rw [← hR]; exact hact) rfl changed hm (by rfl) still
  replace hu := placed.trans hu
  rw [hu] at run
  have within : Within v u := by
    have noted := (notedAll_eq displaced (v.setTarget (zoneTarget z) R)).symm
    rw [← hu, placed, show (v.setTarget (zoneTarget z) R).setLink (noticesLink displaced v.link) = _ from noted]
    exact finish_within (((Within.refl v).setTarget _ _ (by rw [← hR]; rfl) (by rw [← hR]; rfl)).notedAll displaced) _ _
  refine ⟨u, run, RepliesFirst.of_within rfl within, took.target, ?_, ?_, fun t => took.others, fun y => took.otherZones,
    took.entries, took.drives, ?_, ?_, ?_⟩
  · rw [hlink, notedAll_eq, noticesLink_append, noticesLink_append]; rfl
  · rw [took.zone]; exact Zone.takeContext_host _ p kind
  · intro b hb
    by_cases he : ended = []
    · rw [State.bay, (quiet he).2]; rfl
    · rw [State.bay, (ending he).2]; exact State.bay_setBay_other s _ _ b hb
  · intro he; exact ⟨(quiet he).1, by rw [State.bay, (quiet he).2]; rfl⟩
  · intro he; exact ⟨(ending he).1, by rw [State.bay, (ending he).2]; exact State.bay_setBay_same s _ _⟩

end Sys2Proof.Machine
end

section
/-! PROOF. A shade that asks for power (O32). -/

namespace Sys2Proof.Machine

open Sys2Proof

/-- From `s` to `u` the drive of bay `b` has taken the desired stop and asked for power: it energises with a free grant and else
waits for one; besides, the bay lost its halted mark. -/
structure PowerAsked (s u : State) (b : BayId) (stop : Nat) : Prop where
  desired : (u.drive b).desired = some stop
  position : (u.drive b).position = (s.drive b).position
  powerTimeout : (u.drive b).powerTimeout = false
  free : grantsHeld s < 4 → (u.drive b).state = .energizing ∧ (u.drive b).grant = true ∧
    (u.drive b).energiseTimer = some 400 ∧ u.grantQueue = s.grantQueue
  waits : 4 ≤ grantsHeld s → (u.drive b).state = .waitPower ∧ (u.drive b).waitTimer = some 30000 ∧
    u.grantQueue = s.grantQueue ++ [b]
  targets : u.targets = s.targets
  bay : u.bay b = { s.bay b with halted := false }
  link : u.link = s.link
  sweep : u.sweep = s.sweep

theorem drive_stopTaken (b : BayId) (stop : Nat) (s : State) : (stopTaken b stop s).drive b = { s.drive b with
    desired := some stop, following := false, powerTimeout := false, pendingStop := (s.drive b).pendingStop.afterChange } :=
  State.drive_setDrive_same s b _

theorem bay_stopTaken (b : BayId) (stop : Nat) (s : State) : (stopTaken b stop s).bay b = { s.bay b with halted := false } :=
  State.bay_setBay_same (s.setDrive b _) b _

/-- What a drive in IDLE does with a stop away from its position. -/
theorem powerAsked (b : BayId) (stop : Nat) (s : State) : PowerAsked s (askPower b (stopTaken b stop s)) b stop := by
  by_cases hg : grantsHeld s < 4
  · have drive : (giveGrant b (stopTaken b stop s)).drive b = _ := State.drive_setDrive_same (stopTaken b stop s) b _
    rw [askPower_of_free (by rw [grantsHeld_stopTaken]; exact hg)]
    exact ⟨by rw [drive, drive_stopTaken], by rw [drive, drive_stopTaken], by rw [drive, drive_stopTaken],
      fun _ => ⟨by rw [drive], by rw [drive], by rw [drive]; rfl, rfl⟩, fun h => absurd hg (Nat.not_lt.2 h), rfl,
      bay_stopTaken b stop s, rfl, rfl⟩
  · have drive : (((stopTaken b stop s).setDrive b { (stopTaken b stop s).drive b with
        state := .waitPower, waitTimer := some 30000 }).setGrantQueue ((stopTaken b stop s).grantQueue ++ [b])).drive b = _ :=
      State.drive_setDrive_same (stopTaken b stop s) b _
    rw [askPower_of_none (by rw [grantsHeld_stopTaken]; exact Nat.not_lt.1 hg)]
    exact ⟨by rw [drive, drive_stopTaken], by rw [drive, drive_stopTaken], by rw [drive, drive_stopTaken],
      fun h => absurd h hg, fun _ => ⟨by rw [drive], by rw [drive], rfl⟩, rfl, bay_stopTaken b stop s, rfl, rfl⟩

/-- The kind of a request for a shade. -/
theorem kind_of_shade {p : RequestPayload} {b : BayId} (ht : p.target.toNat = (shadeTarget b).val) (h : p.FieldsAllowed) :
    p.kind.toNat = Kind.fix.code := by
  have high : 48 ≤ (shadeTarget b).val := Nat.le_add_right _ _
  rcases h with ⟨low, -⟩ | ⟨low, -⟩ | ⟨low, -⟩ | ⟨-, kind, -⟩
  · omega
  · omega
  · omega
  · rw [kind]; rfl

/-- A base context lies above no level that a REQUEST may carry. -/
theorem baseContext_above {v : Option Nat} {level : Nat} (h : RequestLevel level) : level < (baseContext v).level :=
  Nat.lt_succ_of_le h.1

/-- Settles O32: the push over the base context, and the hand-off to the drive in IDLE. -/
theorem requestMovesAnIdleShade : Obligations.RequestMovesAnIdleShade := by
  intro h p b s hs hp habove hwindow hn hidle hpos hdes
  have run : Completes (.request h p) s (takeRequest h.tag p s) := completes_row (c := .request p) hs
  have passed := hp
  obtain ⟨ht, hact, hlevel, hfields, -, hfree, -⟩ := hp
  rw [takeRequest_passes passed (kind_of_shade ht hfields)] at run
  have base : (s.target (shadeTarget b)).active = baseContext (s.target (shadeTarget b)).baseValue := by
    unfold Target.active; rw [habove]
  have changed : sameContext (s.target (shadeTarget b)).active (p.contextOf .fix) = false :=
    sameContext_of_identity (identity_active hfree)
  rw [placeRequest_pushes (by rw [base]; exact baseContext_above hlevel) (by rw [habove]; decide) (.inl hwindow),
    pushClaim_plain (s := replied h.tag .accepted [] s) (r := s.target (shadeTarget b)) (by rfl) (.inl (by rw [base]; rfl)), habove] at run
  generalize hR : ({ s.target (shadeTarget b) with above := [p.contextOf .fix] } : Target) = R at run ⊢
  generalize hw : (replied h.tag .accepted [] s).setTarget (shadeTarget b) R = w at run
  have wt : w.target (shadeTarget b) = R := by rw [← hw]; exact State.target_setTarget_same _ _ _
  have wa : w.active (shadeTarget b) = p.contextOf .fix := by unfold State.active; rw [wt, ← hR]; rfl
  let x := w.setLink (noticesLink (changeNotice (shadeTarget b) R) w.link)
  have xd : x.drive b = s.drive b := by show w.drive b = _; rw [← hw]; rfl
  have xb : x.bay b = s.bay b := by show w.bay b = _; rw [← hw]; rfl
  have xg : grantsHeld x = grantsHeld s := by show grantsHeld w = _; rw [← hw]; rfl
  have xq : x.grantQueue = s.grantQueue := by show w.grantQueue = _; rw [← hw]; rfl
  have asked := powerAsked b p.value.toNat x
  generalize hu : askPower b (stopTaken b p.value.toNat x) = u at asked
  have un : NoZoneCalibrating u := by unfold NoZoneCalibrating; rw [asked.sweep]; show w.sweep.current = _; rw [← hw]; exact hn
  have done : finish (shadeTarget b) (s.target (shadeTarget b)).active w = u := by
    refine finish_shade (by rw [wt, ← hR]; exact hact) (by rw [wa]; exact changed) (by rw [wa]; nofun) ?_ un
    rw [wt, wa, ← hu]
    exact driveHandoff_idle (s := x) (by rw [xd]; exact hidle) (by rw [xd]; exact hpos) (by rw [xd]; exact hdes)
  have within : Within (replied h.tag .accepted [] s) (finish (shadeTarget b) (s.target (shadeTarget b)).active w) :=
    finish_within (hw ▸ (Within.refl _).setTarget _ R (by rw [← hR]; rfl) (by rw [← hR]; rfl)) _ _
  rw [done] at run within
  refine ⟨u, run, .of_within rfl within, ?_, asked.desired, by rw [asked.bay], ?_, ?_, fun hwatch hroom => ?_⟩
  · rw [State.target, asked.targets]; exact wt
  · rw [← xg, ← xq]; exact asked.free
  · rw [← xg, ← xq]; exact asked.waits
  · have link : u.link = noticeLink (.targetChange (shadeTarget b) .host .fix p.level.toNat (some p.value.toNat)
        (some p.identity.toNat) false) (replied h.tag .accepted [] s).link := by
      rw [asked.link]
      show noticesLink (changeNotice (shadeTarget b) R) w.link = _
      rw [changeNotice, if_pos (by rw [← hR]; exact hwatch), ← hR, ← hw]; rfl
    rw [link, noticeLink, if_pos (by simp [replied]; omega)]
    simp [replied]

end Sys2Proof.Machine
end

section
/-! PROOF. ENABLE, and a zone that enters service (O23, O24). -/

namespace Sys2Proof.Machine

open Sys2Proof

/-! ### A zone enters service -/

theorem enableSource_within (z : ZoneId) (s : State) : Within s (enableSource z s) := by
  have h0 := Within.refl s
  unfold enableSource; dsimp only
  split
  · exact (h0.setZone _ _).raiseMeasureLost finish_stays _ _
  split
  · exact ((h0.setZone _ _).setZone _ _).endReport finish_stays _ _
  · exact h0.setZone _ _

/-- A zone enters service with its watch mark laid aside, which comes back before the TARGET CHANGE. -/
theorem enableZone_split (z : ZoneId) (s : State) : ∃ u, enableZone z s = noteChange (zoneTarget z) u ∧
    (u.target (zoneTarget z)).state = .active ∧ s.link.reports <+: u.link.reports := by
  let s1 := s.setTarget (zoneTarget z) { s.target (zoneTarget z) with state := .active, watch := false }
  have within : Within s1 (enableSource z (markZone z (s1.setZone z (enabledZone s1 z)))) :=
    (((Within.refl s1).setZone z (enabledZone s1 z)).markZone z).trans (enableSource_within _ _)
  refine ⟨_, rfl, ?_, within.grown⟩
  rw [State.target_setTarget_same]
  show ((enableSource z (markZone z (s1.setZone z (enabledZone s1 z)))).target (zoneTarget z)).state = .active
  rw [within.targetState, State.target_setTarget_same]

theorem enableZone_active (z : ZoneId) (s : State) : ((enableZone z s).target (zoneTarget z)).state = .active := by
  obtain ⟨u, e, active, -⟩ := enableZone_split z s
  rw [e, ((Within.refl u).noteChange _).targetState, active]

theorem enableZone_grown (z : ZoneId) (s : State) : s.link.reports <+: (enableZone z s).link.reports := by
  obtain ⟨u, e, -, grown⟩ := enableZone_split z s
  rw [e]; exact grown.trans ((Within.refl u).noteChange _).grown

/-- The zone's VALID ceiling channel becomes its source, and no MEASURE_LOST report is open. -/
theorem enableSource_of_direct {z : ZoneId} {s : State} (hc : (s.zone z).cfg.ceilingSensor = true)
    (hv : (s.view (ceilingChannel z)).valid = true) (hl : (s.zone z).measureLost = false) :
    enableSource z s = s.setZone z { s.zone z with source := .direct } := by
  unfold enableSource; dsimp only
  rw [selectSource_direct hc hv, if_neg (by decide), if_neg (by rw [hl]; decide)]

theorem setZone_markZone (z y : ZoneId) (r : Zone) (s : State) : (markZone z s).setZone y r = markZone z (s.setZone y r) := by
  simp only [markZone, State.setZone]

theorem setTarget_markZone (z : ZoneId) (t : TargetId) (r : Target) (s : State) :
    (markZone z s).setTarget t r = markZone z (s.setTarget t r) := by
  simp only [markZone, State.setTarget]

theorem setTarget_setZone (z : ZoneId) (t : TargetId) (x : Zone) (r : Target) (s : State) :
    (s.setZone z x).setTarget t r = (s.setTarget t r).setZone z x := rfl

theorem inMotion_eq (x : DriveState) : x.inMotion = (x == .homing || x == .moving || x == .verifying) := by cases x <;> rfl

/-- A zone enters service on its VALID ceiling channel. -/
theorem enableZone_of_direct {z : ZoneId} {s : State} (hc : (s.zone z).cfg.ceilingSensor = true)
    (hv : (s.view (ceilingChannel z)).valid = true) (hl : (s.zone z).measureLost = false) :
    enableZone z s = noteChange (zoneTarget z) (markZone z
      ((s.setTarget (zoneTarget z) { s.target (zoneTarget z) with state := .active }).setZone z
        { enabledZone s z with source := .direct })) := by
  let s1 := s.setTarget (zoneTarget z) { s.target (zoneTarget z) with state := .active, watch := false }
  let m := markZone z (s1.setZone z (enabledZone s z))
  have mz : m.zone z = enabledZone s z := by rw [zone_markZone, State.zone_setZone_same]
  have mt : m.target (zoneTarget z) = { s.target (zoneTarget z) with state := .active, watch := false } := by
    rw [target_markZone, State.target_setZone, State.target_setTarget_same]
  have source : enableSource z m = m.setZone z { enabledZone s z with source := .direct } := by
    rw [enableSource_of_direct (s := m) (by rw [mz]; exact hc) (by rw [State.view, markZone_views]; exact hv)
      (by rw [mz]; exact hl), mz]
  show noteChange (zoneTarget z) ((enableSource z m).setTarget (zoneTarget z)
    { (enableSource z m).target (zoneTarget z) with watch := (s.target (zoneTarget z)).watch }) = _
  rw [source, State.target_setZone, mt]
  refine congrArg (noteChange (zoneTarget z)) ?_
  rw [setZone_markZone, setTarget_markZone, State.setZone_setZone, setTarget_setZone, State.setTarget_setTarget]

/-! ### A shade enters service -/

/-- The records of a shade that enters service, before its drive takes the open stop. -/
def shadeEnabled (b : BayId) (s : State) : State :=
  (s.setBay b { s.bay b with glare := .clear, glareTimer := none, halted := false }).setTarget (shadeTarget b)
    { s.target (shadeTarget b) with state := .active, baseValue := some (s.bay b).cfg.openStop }

theorem enableShade_split (b : BayId) (s : State) : ∃ d, enableShade b s = noteChange (shadeTarget b)
    (driveHandoff finish b (some (s.bay b).cfg.openStop) false ((shadeEnabled b s).setDrive b d)) ∧
      ((s.drive b).state = .off → d = { s.drive b with state := .idle, desired := none }) := by
  unfold enableShade; dsimp only
  split
  · exact ⟨_, rfl, fun _ => rfl⟩
  · next h => exact ⟨_, rfl, fun e => absurd e h⟩

theorem enableShade_within (b : BayId) (s : State) : Within (shadeEnabled b s) (enableShade b s) := by
  obtain ⟨d, e, -⟩ := enableShade_split b s
  rw [e]
  exact (((Within.refl _).setDrive b d).driveHandoff finish_stays _ _ _).noteChange _

theorem enableShade_active (b : BayId) (s : State) : ((enableShade b s).target (shadeTarget b)).state = .active := by
  rw [(enableShade_within b s).targetState, shadeEnabled, State.target_setTarget_same]

/-! ### The command -/

section
variable {tag target : Byte} {t : TargetId} {s : State}

theorem takeEnable_of_unconfigured (ht : t.val = target.toNat) (h : (s.target t).state = .unconfigured) :
    takeEnable tag target s = replied tag .notConfigured [] s := by
  unfold takeEnable; rw [operandTarget_of_val ht]; dsimp only; rw [h]; rfl

theorem takeEnable_of_active (ht : t.val = target.toNat) (h : (s.target t).state = .active) :
    takeEnable tag target s = replied tag .ok [] s := by
  unfold takeEnable; rw [operandTarget_of_val ht]; dsimp only; rw [h]; rfl

theorem takeEnable_zone {z : ZoneId} (hz : (zoneTarget z).val = target.toNat) (h : (s.target (zoneTarget z)).state = .dormant) :
    takeEnable tag target s = enableZone z (replied tag .ok [] s) := by
  unfold takeEnable; rw [operandTarget_of_val hz]; dsimp only; rw [h, viewTarget_zoneTarget]; rfl

theorem takeEnable_shade {b : BayId} (hb : (shadeTarget b).val = target.toNat)
    (h : (s.target (shadeTarget b)).state = .dormant) : takeEnable tag target s =
      if (s.bay b).cfg.shadePresent = true then enableShade b (replied tag .ok [] s) else replied tag .notConfigured [] s := by
  unfold takeEnable; rw [operandTarget_of_val hb]; dsimp only; rw [h, viewTarget_shadeTarget]; rfl

end

/-- Settles O23: the target's state, then its kind. -/
theorem enableAnswersByTargetState : Obligations.EnableAnswersByTargetState := by
  intro h target s hs
  have run : Completes (.enable h target) s (takeEnable h.tag target s) := completes_row (c := .enable target) hs
  refine ⟨fun hn => run.of_eq ?_, fun t ht => ⟨fun hu => run.of_eq (takeEnable_of_unconfigured ht hu),
    fun ha => run.of_eq (takeEnable_of_active ht ha), fun b hb hd hp => run.of_eq ?_, fun hd hp => ⟨_, run, ?_⟩⟩⟩
  · unfold takeEnable; rw [operandTarget_none hn]; rfl
  · subst hb
    rw [takeEnable_shade ht hd, if_neg (by rw [hp]; decide)]
  · rcases target_cases t with ⟨z, rfl⟩ | ⟨b, rfl⟩
    · rw [takeEnable_zone ht hd]
      exact ⟨enableZone_active z _, enableZone_grown z (replied h.tag .ok [] s)⟩
    · rw [takeEnable_shade ht hd, if_pos (hp b rfl)]
      exact ⟨enableShade_active b _, (enableShade_within b (replied h.tag .ok [] s)).grown⟩

/-- Settles O24: the record of the zone, the source on its VALID channel, and the TARGET CHANGE of a watched zone. -/
theorem enableBringsAZoneIntoService : Obligations.EnableBringsAZoneIntoService := by
  intro h target z s hs ht hd habove hbase hc hv hl u hu
  have run : Completes (.enable h target) s (takeEnable h.tag target s) := completes_row (c := .enable target) hs
  rw [takeEnable_zone (z := z) ht.symm hd] at run
  have enabled : enableZone z (replied h.tag .ok [] s) = noteChange (zoneTarget z) u := by
    rw [enableZone_of_direct (s := replied h.tag .ok [] s) hc hv hl, hu, ← inMotion_eq]
    rfl
  have ut : u.target (zoneTarget z) = { s.target (zoneTarget z) with state := .active } := by
    rw [hu, target_markZone, State.target_setZone, State.target_setTarget_same]
  have active : (u.target (zoneTarget z)).active = baseContext none := by
    rw [ut]; unfold Target.active; dsimp only; rw [habove, hbase]
  rw [enabled] at run
  refine ⟨fun hw => run.of_eq ?_, fun hw => run.of_eq ?_⟩
  · rw [noteChange_eq, changeNotice, if_neg (by rw [ut]; simpa using hw)]; rfl
  · rw [noteChange_eq, changeNotice, if_pos (by rw [ut]; exact hw), active, noticed_eq]; rfl

end Sys2Proof.Machine
end

section
/-! PROOF. ENABLE of a shade (O25). -/

namespace Sys2Proof.Machine

open Sys2Proof

/-- A new stop at the position leaves a drive in IDLE. -/
theorem driveHandoff_idle_rests {fin : Finisher} {b : BayId} {stop : Nat} {s : State} (hs : (s.drive b).state = .idle)
    (hp : (s.drive b).position = some stop) (hd : (s.drive b).desired ≠ some stop) :
    driveHandoff fin b (some stop) false s = stopTaken b stop s := by
  rw [driveHandoff_tests hs hd, testMovement, if_neg]
  rw [movementNeeded, drive_stopTaken, hp]
  simp

/-- Settles O25: the drive in IDLE, which rests at the open stop or asks for power. -/
theorem enableBringsAShadeIntoService : Obligations.EnableBringsAShadeIntoService := by
  intro h target b s hs ht hd hp hoff
  have run : Completes (.enable h target) s (takeEnable h.tag target s) := completes_row (c := .enable target) hs
  rw [takeEnable_shade ht.symm hd, if_pos hp] at run
  let v := replied h.tag .ok [] s
  let stop := (s.bay b).cfg.openStop
  let x := (shadeEnabled b v).setDrive b { s.drive b with state := .idle, desired := none }
  obtain ⟨w, enabled⟩ : ∃ w, w = driveHandoff finish b (some stop) false x ∧ enableShade b v = noteChange (shadeTarget b) w := by
    obtain ⟨d, e, hd⟩ := enableShade_split b v
    obtain rfl := hd hoff
    exact ⟨_, rfl, e⟩
  have xd : x.drive b = { s.drive b with state := .idle, desired := none } := State.drive_setDrive_same _ _ _
  have xg : grantsHeld x = grantsHeld s := grantsHeld_setDrive (s := shadeEnabled b v) rfl
  have xb : x.bay b = { s.bay b with glare := .clear, glareTimer := none, halted := false } := State.bay_setBay_same v _ _
  have xt : x.target (shadeTarget b) = { s.target (shadeTarget b) with state := .active, baseValue := some stop } :=
    State.target_setTarget_same (v.setBay b _) _ _
  have noted : enableShade b v = w.setLink (noticesLink (changeNotice (shadeTarget b) (w.target (shadeTarget b))) w.link) := by
    rw [enabled.2, noteChange_eq]
  have replies : RepliesFirst h.tag .ok [] s (enableShade b v) := (enableShade_within b v).grown
  have desired : (x.drive b).desired ≠ some stop := by rw [xd]; nofun
  rw [show replied h.tag .ok [] s = v from rfl] at run
  refine ⟨_, run, replies, ?_⟩
  rw [noted]
  by_cases hpos : (s.drive b).position = some stop
  · have rests : w = stopTaken b stop x := by
      rw [enabled.1, driveHandoff_idle_rests (by rw [xd]) (by rw [xd]; exact hpos) desired]
    have wd : w.drive b = _ := rests ▸ drive_stopTaken b stop x
    have wb : w.bay b = _ := rests ▸ bay_stopTaken b stop x
    have wt : w.target (shadeTarget b) = x.target (shadeTarget b) := by rw [rests]; rfl
    have wq : w.grantQueue = s.grantQueue := by rw [rests]; rfl
    exact ⟨wt.trans xt, by rw [State.bay_setLink, wb, xb], by rw [State.drive_setLink, wd], by rw [State.drive_setLink, wd, xd],
      by rw [State.drive_setLink, wd], fun _ => ⟨by rw [State.drive_setLink, wd, xd], wq⟩, fun hn => absurd hpos hn,
      fun hn => absurd hpos hn⟩
  · have asked : PowerAsked x w b stop := by
      rw [enabled.1, driveHandoff_idle (by rw [xd]) (by rw [xd]; exact hpos) desired]
      exact powerAsked b stop x
    have wt : w.target (shadeTarget b) = x.target (shadeTarget b) := by rw [State.target, asked.targets]; rfl
    exact ⟨wt.trans xt, by rw [State.bay_setLink, asked.bay, xb], asked.desired, asked.position.trans (by rw [xd]),
      asked.powerTimeout, fun he => absurd he hpos, fun _ hg => asked.free (by rw [xg]; exact hg),
      fun _ hg => asked.waits (by rw [xg]; exact hg)⟩

end Sys2Proof.Machine
end

section
/-! PROOF. DISABLE, and a zone that leaves service (O26). -/

namespace Sys2Proof.Machine

open Sys2Proof

/-! ### The target's record -/

/-- The record that DISABLE leaves of a target (R18). -/
def Target.dismissed (r : Target) : Target :=
  { r with state := .dormant, above := [], window := false, fault := if r.locked then none else r.fault }

/-- The part after the Arbiter's and the Fault Unit's part of DISABLE, with `k` in its Link Port. -/
def dismissedOf (t : TargetId) (k : LinkPort) (s : State) : State :=
  ((s.setTarget t (s.target t).dismissed).setPendingList (s.pendingList.filter fun e => e.target ≠ t)).setLink k

/-- The records of DISABLE follow those that were there. -/
theorem dismissTarget_writes (t : TargetId) (s : State) : ∃ k, dismissTarget t s = dismissedOf t k s ∧
    s.link.reports <+: k.reports := by
  obtain ⟨unlocked, hu⟩ : ∃ unlocked, ((s.target t).locked = false ∧ unlocked = []) ∨
      ((s.target t).locked = true ∧ ∀ f, (s.target t).fault = some f →
        unlocked = [Record.faultCleared t .disable f.firstClass f.superseded]) := by
    rcases hf : (s.target t).fault with _ | f
    · exact ⟨[], .inl ⟨by rw [Target.locked, hf], rfl⟩⟩
    · cases hl : (s.target t).locked
      · exact ⟨[], .inl ⟨rfl, rfl⟩⟩
      · exact ⟨_, .inr ⟨rfl, fun g hg => by cases hg; rfl⟩⟩
  exact ⟨_, dismissTarget_eq rfl _ unlocked _ rfl hu rfl, noticesLink_grown _ _⟩

theorem target_dismissedOf (t : TargetId) (k : LinkPort) (s : State) :
    (dismissedOf t k s).target t = (s.target t).dismissed := State.target_setTarget_same s t _

/-! ### The command -/

section
variable {tag target : Byte} {t : TargetId} {s : State}

theorem takeDisable_of_unconfigured (ht : t.val = target.toNat) (h : (s.target t).state = .unconfigured) :
    takeDisable tag target s = replied tag .notConfigured [] s := by
  unfold takeDisable; rw [operandTarget_of_val ht]; dsimp only; rw [h]; rfl

theorem takeDisable_of_dormant (ht : t.val = target.toNat) (h : (s.target t).state = .dormant) :
    takeDisable tag target s = replied tag .ok [] s := by
  unfold takeDisable; rw [operandTarget_of_val ht]; dsimp only; rw [h]; rfl

theorem takeDisable_zone {z : ZoneId} (hz : (zoneTarget z).val = target.toNat) (h : (s.target (zoneTarget z)).state = .active) :
    takeDisable tag target s =
      checkPreempted finish (disableZone z (dismissTarget (zoneTarget z) (replied tag .ok [] s))) := by
  unfold takeDisable; rw [operandTarget_of_val hz]; dsimp only; rw [h, viewTarget_zoneTarget]; rfl

theorem takeDisable_shade {b : BayId} (hb : (shadeTarget b).val = target.toNat) (h : (s.target (shadeTarget b)).state = .active) :
    takeDisable tag target s =
      checkPreempted finish (disableShade b (dismissTarget (shadeTarget b) (replied tag .ok [] s))) := by
  unfold takeDisable; rw [operandTarget_of_val hb]; dsimp only; rw [h, viewTarget_shadeTarget]; rfl

/-- An ACTIVE target goes DORMANT, and the REPLY stands first. -/
theorem takeDisable_of_active (ht : t.val = target.toNat) (h : (s.target t).state = .active) :
    ((takeDisable tag target s).target t).state = .dormant ∧ RepliesFirst tag .ok [] s (takeDisable tag target s) := by
  obtain ⟨k, e, grown⟩ := dismissTarget_writes t (replied tag .ok [] s)
  have within : Within (dismissedOf t k (replied tag .ok [] s)) (takeDisable tag target s) := by
    rcases target_cases t with ⟨z, rfl⟩ | ⟨b, rfl⟩
    · rw [takeDisable_zone ht h, e]; exact ((Within.refl _).setZone _ _).checkPreempted finish_stays
    · rw [takeDisable_shade ht h, e]; exact ((Within.refl _).disableShade _).checkPreempted finish_stays
  exact ⟨by rw [within.targetState, target_dismissedOf]; rfl, grown.trans within.grown⟩

end

/-- Settles O26: the target's record, the zone's, and the sweep where it loses its zone. -/
theorem disableTakesAZoneOutOfService : Obligations.DisableTakesAZoneOutOfService := by
  intro h target s hs
  have run : Completes (.disable h target) s (takeDisable h.tag target s) := completes_row (c := .disable target) hs
  refine ⟨fun hn => run.of_eq ?_, fun t ht => ⟨fun hu => run.of_eq (takeDisable_of_unconfigured ht hu),
    fun hd => run.of_eq (takeDisable_of_dormant ht hd), fun ha => ⟨_, run, takeDisable_of_active ht ha⟩⟩,
    fun z hz ha r hr removed h1 unlocked h2 changed h3 u hu => ?_⟩
  · unfold takeDisable; rw [operandTarget_none hn]; rfl
  subst hr
  have dismissed := dismissTarget_eq (s := replied h.tag .ok [] s) (t := zoneTarget z) rfl removed unlocked changed h1 h2 h3
  have disabled : disableZone z (dismissTarget (zoneTarget z) (replied h.tag .ok [] s)) =
      u.setLink (noticesLink (removed ++ unlocked ++ changed) (replied h.tag .ok [] s).link) := by
    rw [dismissed, hu]; rfl
  rw [takeDisable_zone (z := z) hz ha, disabled] at run
  have ut (t : TargetId) : u.target t = if t = zoneTarget z then (s.target (zoneTarget z)).dismissed else s.target t := by
    rw [hu]; exact State.target_setTarget _ _ _ _
  have usweep : u.sweep = s.sweep := by rw [hu]; rfl
  have ulink : u.link = (replied h.tag .ok [] s).link := by rw [hu]; rfl
  refine ⟨fun kept => run.of_eq ?_, fun cause hcur hend counts hcounts => run.of_eq ?_⟩
  · rw [checkPreempted_of_kept, notedAll_eq, ulink]
    intro y hy
    obtain ⟨hne, c, hc, ho⟩ := kept y (usweep ▸ hy)
    refine ⟨c, ?_, ho⟩
    rw [State.target_setLink, ut, if_neg fun e => hne (zoneTarget_inj e)]
    exact hc
  · let w := u.setLink (noticesLink (removed ++ unlocked ++ changed) (replied h.tag .ok [] s).link)
    have gone : hasCalibrate w z = false := by
      refine hasCalibrate_eq_false ?_
      rw [State.target_setLink, ut, if_pos rfl]
      nofun
    have ubay : u.bay (bayOf z) = s.bay (bayOf z) := by rw [hu]; rfl
    rw [show checkPreempted finish w = _ from checkPreempted_ends (s := w) (z := z) (cause := cause)
      (by rw [← hcur, ← usweep]; rfl) gone (hend.of_sweep (by rw [← usweep]; rfl) (by rw [← usweep]; rfl)), hcounts,
      notedAll_eq, noticesLink_append, unfreezeBay]
    rw [show w.sweep = s.sweep from usweep, show w.bay (bayOf z) = s.bay (bayOf z) from ubay]
    show _ = ((u.setBay (bayOf z) { s.bay (bayOf z) with frozen := false }).setSweep _).setLink
      (noticesLink _ (noticesLink _ u.link))
    rw [ulink]
    rfl

end Sys2Proof.Machine
end

section
/-! PROOF. DISABLE of a shade (O27). -/

namespace Sys2Proof.Machine

open Sys2Proof

/-- A drive in OFF, with the position rule of a CONFIGURE BAY taken meanwhile (R14, R20). -/
def Drive.off (d : Drive) : Drive :=
  { d with state := .off, desired := none, following := false, powerTimeout := false, energiseTimer := none, holdTimer := none,
           position := if d.positionRule then none else d.position, positionRule := false }

theorem enterOff_eq (b : BayId) (s : State) : enterOff b s = s.setDrive b (s.drive b).off := rfl

theorem Drive.off_position {d : Drive} (h : d.positionRule = false) : d.off.position = d.position := by
  simp [Drive.off, h]

/-- The bay has given up a pending glare state. -/
def glareLeft (b : BayId) (s : State) : State := s.setBay b (s.bay b).returnPending

section
variable {b : BayId} {s : State}

theorem disableShade_of_motion (h : (s.drive b).state = .homing ∨ (s.drive b).state = .moving ∨ (s.drive b).state = .verifying) :
    disableShade b s = (glareLeft b s).setDrive b { s.drive b with desired := none, pendingStop := .off } := by
  unfold disableShade; dsimp only
  rw [State.drive_setBay]
  rcases h with h | h | h <;> rw [h] <;> rfl

theorem disableShade_of_waitPower (h : (s.drive b).state = .waitPower) :
    disableShade b s = enterOff b (leaveQueue b (glareLeft b s)) := by
  unfold disableShade; dsimp only
  rw [State.drive_setBay, h]; rfl

theorem disableShade_of_granted (h : (s.drive b).state = .energizing ∨ (s.drive b).state = .holding) :
    disableShade b s = releasePower b (enterOff b (glareLeft b s)) := by
  unfold disableShade; dsimp only
  rw [State.drive_setBay]
  rcases h with h | h <;> rw [h] <;> rfl

theorem disableShade_of_rest (h : (s.drive b).state = .idle ∨ (s.drive b).state = .failed ∨ (s.drive b).state = .off) :
    disableShade b s = enterOff b (glareLeft b s) := by
  unfold disableShade; dsimp only
  rw [State.drive_setBay]
  rcases h with h | h | h <;> rw [h] <;> rfl

end

/-- A release of power changes no desired stop and no position. -/
theorem drive_releasePower (b y : BayId) (s : State) : ((releasePower b s).drive y).desired = (s.drive y).desired ∧
    ((releasePower b s).drive y).position = (s.drive y).position := by
  have own (x : BayId) (u : State) (d : Drive) (hd : d.desired = (u.drive x).desired) (hp : d.position = (u.drive x).position) :
      ((u.setDrive x d).drive y).desired = (u.drive y).desired ∧ ((u.setDrive x d).drive y).position = (u.drive y).position := by
    rw [State.drive_setDrive]; split
    · next e => rw [e]; exact ⟨hd, hp⟩
    · exact ⟨rfl, rfl⟩
  have released := own b s { s.drive b with grant := false } rfl rfl
  rcases hq : s.grantQueue with _ | ⟨first, rest⟩
  · rw [releasePower_of_nil hq]; exact released
  · rw [releasePower_of_cons hq]
    have given := own first ((s.setDrive b { s.drive b with grant := false }).setGrantQueue rest)
      { ((s.setDrive b { s.drive b with grant := false }).setGrantQueue rest).drive first with
        state := .energizing, grant := true, energiseTimer := some 400, waitTimer := none } rfl rfl
    exact ⟨given.1.trans released.1, given.2.trans released.2⟩

theorem driveState_cases (x : DriveState) : (x = .homing ∨ x = .moving ∨ x = .verifying) ∨ x = .waitPower ∨
    (x = .energizing ∨ x = .holding) ∨ (x = .idle ∨ x = .failed ∨ x = .off) := by
  cases x <;> decide

/-- What DISABLE of a shade leaves alone. -/
theorem disableShade_frame (b : BayId) (s : State) : (disableShade b s).targets = s.targets ∧
    (disableShade b s).sweep = s.sweep ∧ (disableShade b s).bay b = (s.bay b).returnPending := by
  have power (u : State) : (releasePower b u).targets = u.targets ∧ (releasePower b u).sweep = u.sweep ∧
      (releasePower b u).bays = u.bays := by
    rcases hq : u.grantQueue with _ | ⟨first, rest⟩
    · rw [releasePower_of_nil hq]; exact ⟨rfl, rfl, rfl⟩
    · rw [releasePower_of_cons hq]; exact ⟨rfl, rfl, rfl⟩
  have left : (glareLeft b s).bay b = (s.bay b).returnPending := State.bay_setBay_same s b _
  rcases driveState_cases (s.drive b).state with h | h | h | h
  · rw [disableShade_of_motion h]; exact ⟨rfl, rfl, left⟩
  · rw [disableShade_of_waitPower h]; exact ⟨rfl, rfl, left⟩
  · obtain ⟨targets, sweep, bays⟩ := power (enterOff b (glareLeft b s))
    rw [disableShade_of_granted h]
    exact ⟨targets, sweep, by rw [State.bay, bays]; exact left⟩
  · rw [disableShade_of_rest h]; exact ⟨rfl, rfl, left⟩

/-- A drive that is not in motion loses its desired stop and, but for the position rule, keeps its position. -/
theorem disableShade_stops {b : BayId} {s : State} (h : ¬ ((s.drive b).state = .homing ∨ (s.drive b).state = .moving ∨
    (s.drive b).state = .verifying)) : ((disableShade b s).drive b).desired = none ∧
      ((s.drive b).positionRule = false → ((disableShade b s).drive b).position = (s.drive b).position) := by
  have off (u : State) (hu : u.drive b = s.drive b) : ((enterOff b u).drive b).desired = none ∧
      ((s.drive b).positionRule = false → ((enterOff b u).drive b).position = (s.drive b).position) := by
    rw [enterOff_eq, State.drive_setDrive_same, hu]
    exact ⟨rfl, Drive.off_position⟩
  rcases driveState_cases (s.drive b).state with hd | hd | hd | hd
  · exact absurd hd h
  · rw [disableShade_of_waitPower hd, enterOff_eq, State.drive_setDrive_same, leaveQueue, State.drive_setGrantQueue,
      State.drive_setDrive_same]
    exact ⟨rfl, fun hp => Drive.off_position hp⟩
  · obtain ⟨desired, position⟩ := drive_releasePower b b (enterOff b (glareLeft b s))
    rw [disableShade_of_granted hd, desired, position]
    exact off (glareLeft b s) rfl
  · rw [disableShade_of_rest hd]
    exact off (glareLeft b s) rfl

/-- An energised drive at rest goes OFF, and its grant goes to the head of the queue. -/
theorem disableShade_releases {b : BayId} {s : State} (hg : (s.drive b).state = .energizing ∨ (s.drive b).state = .holding)
    (hb : b ∉ s.grantQueue) : (disableShade b s).drive b = { (s.drive b).off with grant := false } ∧
      ∀ first rest, s.grantQueue = first :: rest → ((disableShade b s).drive first).state = .energizing ∧
        ((disableShade b s).drive first).grant = true ∧ (disableShade b s).grantQueue = rest := by
  rw [disableShade_of_granted hg]
  generalize hw : enterOff b (glareLeft b s) = w
  have wq : w.grantQueue = s.grantQueue := by rw [← hw]; rfl
  have wd : w.drive b = (s.drive b).off := by rw [← hw, enterOff_eq, State.drive_setDrive_same]; rfl
  have released : GrantReleased b w (releasePower b w) := grantReleased (by rw [wq]; exact hb)
  refine ⟨by rw [released.own, wd], fun first rest hq => ?_⟩
  obtain ⟨queue, head, -⟩ := released.granted first rest (wq.trans hq)
  exact ⟨by rw [head], by rw [head], queue⟩

/-- Settles O27: the record of the target, then the drive by its state. -/
theorem disableTakesAShadeOutOfService : Obligations.DisableTakesAShadeOutOfService := by
  intro h target b s hs ht ha hn
  have run : Completes (.disable h target) s (takeDisable h.tag target s) := completes_row (c := .disable target) hs
  obtain ⟨k, dismissed, -⟩ := dismissTarget_writes (shadeTarget b) (replied h.tag .ok [] s)
  let v := dismissedOf (shadeTarget b) k (replied h.tag .ok [] s)
  obtain ⟨targets, sweep, bay⟩ := disableShade_frame b v
  have vt : v.target (shadeTarget b) = (s.target (shadeTarget b)).dismissed := target_dismissedOf _ _ _
  have vd : v.drive b = s.drive b := rfl
  have vq : v.grantQueue = s.grantQueue := rfl
  have un : NoZoneCalibrating (disableShade b v) := by unfold NoZoneCalibrating; rw [sweep]; exact hn
  rw [takeDisable_shade (b := b) ht.symm ha, dismissed, checkPreempted_of_none (s := disableShade b v) un] at run
  have ut : (disableShade b v).target (shadeTarget b) = (s.target (shadeTarget b)).dismissed := by
    rw [State.target, targets]; exact vt
  have ub : (disableShade b v).bay b = (s.bay b).returnPending := bay
  refine ⟨_, run, by rw [ut]; rfl, by rw [ut]; rfl, by rw [ub]; rfl, by rw [ub]; rfl, ?_, ?_, fun hm => ?_, fun hw => ?_,
    fun hg hq => ?_, fun hr => ?_, fun h1 h2 h3 => ?_⟩
  · rw [ub]; rintro (h | h) <;> simp [Bay.returnPending, h]
  · rw [ub]; rintro (h | h) <;> simp [Bay.returnPending, h]
  · rw [disableShade_of_motion (s := v) hm]; exact State.drive_setDrive_same _ _ _
  · rw [disableShade_of_waitPower (s := v) hw, enterOff_eq, State.drive_setDrive_same, leaveQueue, State.drive_setGrantQueue,
      State.drive_setDrive_same]
    exact ⟨rfl, by simp, rfl⟩
  · obtain ⟨own, granted⟩ := disableShade_releases (s := v) hg hq
    rw [own]
    exact ⟨rfl, rfl, rfl, rfl, granted⟩
  · rw [disableShade_of_rest (s := v) (by rcases hr with hr | hr <;> simp [vd, hr]), enterOff_eq, State.drive_setDrive_same]
    rfl
  · exact disableShade_stops (s := v) (by simp [vd, h1, h2, h3])

end Sys2Proof.Machine
end

section
/-! PROOF. CALIBRATE (O37). -/

namespace Sys2Proof.Machine

open Sys2Proof

/-! ### The zones of a range -/

theorem zonesBetween_val {first last : Nat} (h : last < 48) :
    (zonesBetween first last).map (fun z => z.val) = List.range' first (last + 1 - first) := by
  have split : (zonesBetween first last).map (fun z => z.val) =
      ((List.range 48).filter fun x => decide (x < last + 1)).filter fun x => decide (first ≤ x) := by
    rw [List.filter_filter, ← List.map_coe_finRange_eq_range, List.filter_map, ← allIds_eq_finRange]
    refine congrArg (List.map _) (List.filter_congr fun z _ => ?_)
    simp
  rw [split, ← List.Ico.zero_bot, List.Ico.filter_lt, List.Ico.filter_le, Nat.min_eq_right h, Nat.zero_max]
  rfl

theorem zonesBetween_eq {zones : List ZoneId} {first last : Nat} (h : last < 48)
    (hz : zones.map (fun z => z.val) = List.range' first (last + 1 - first)) : zonesBetween first last = zones :=
  List.map_injective_iff.2 Fin.val_injective ((zonesBetween_val h).trans hz.symm)

/-- The first zone of a range leads it. -/
theorem zonesBetween_cons {first last : ZoneId} (h : first ≤ last) :
    ∃ rest, zonesBetween first.val last.val = first :: rest := by
  have low : first.val ≤ last.val := h
  have e := zonesBetween_val (first := first.val) last.isLt
  rw [show last.val + 1 - first.val = (last.val - first.val) + 1 by omega, List.range'_succ] at e
  obtain ⟨x, rest, hx, hv, -⟩ := List.map_eq_cons_iff.1 e
  exact ⟨rest, by rw [hx, Fin.ext hv]⟩

/-! ### The judgement of a zone -/

/-- R171 gives `reason` to skip the zone. -/
def SkippedFor (s : State) (z : ZoneId) (reason : SkipReason) : Prop :=
  (reason = .notActive ∧ ((s.target (zoneTarget z)).state ≠ .active ∨ (s.target (zoneTarget z)).locked = true)) ∨
    ((s.target (zoneTarget z)).state = .active ∧ (s.target (zoneTarget z)).locked = false ∧
      ((reason = .noSensor ∧ (s.zone z).source ≠ .direct) ∨
        (reason = .overridden ∧ (s.zone z).source = .direct ∧ (s.active (zoneTarget z)).level < 12)))

section
variable {s : State} {z : ZoneId}

theorem skipReason_of_skipped {reason : SkipReason} (h : SkippedFor s z reason) : skipReason s z = some reason := by
  unfold skipReason; dsimp only
  rcases h with ⟨rfl, h⟩ | ⟨ha, hl, ⟨rfl, hs⟩ | ⟨rfl, hs, hlevel⟩⟩
  · rw [if_pos]
    rcases h with h | h
    · rw [Target.isActive_of_not h]; rfl
    · rw [h, Bool.or_true]
  · rw [if_neg (by simp [Target.isActive, ha, hl]), if_pos (by simpa using hs)]
  · rw [if_neg (by simp [Target.isActive, ha, hl]), if_neg (by simp [hs])]
    exact if_pos hlevel

theorem skipReason_eq_none (ha : (s.target (zoneTarget z)).state = .active) (hl : (s.target (zoneTarget z)).locked = false)
    (hs : (s.zone z).source = .direct) (hlevel : 12 < (s.active (zoneTarget z)).level) : skipReason s z = none := by
  unfold skipReason; dsimp only
  rw [if_neg (by simp [Target.isActive, ha, hl]), if_neg (by simp [hs])]
  exact if_neg (Nat.lt_asymm hlevel)

end

theorem skipZone_eq (z : ZoneId) (reason : SkipReason) (s : State) : skipZone z reason s =
    (s.setSweep { s.sweep with counts := s.sweep.counts.add .skipped }).setLink
      (noticeLink (.sweepProgress ⟨z, .skipped, some reason, false, none, none, none, none⟩) s.link) :=
  offerNotice_eq _ _

theorem endSweep_eq (cause : SweepCause) (s : State) : endSweep cause s =
    (s.setSweep (sweepOver s.sweep s.sweep.counts)).setLink
      (noticeLink (.sweepEnd cause s.sweep.first s.sweep.last s.sweep.counts) s.link) :=
  offerNotice_eq _ _

/-- The counts with `n` zones more skipped. -/
def SweepCounts.skips (c : SweepCounts) (n : Nat) : SweepCounts := { c with skipped := c.skipped + n }

/-- A sweep in which every zone is skipped is over at once. -/
theorem startZones_of_skipped {fin : Finisher} {reason : ZoneId → SkipReason} (zones : List ZoneId) {s : State}
    (h : ∀ x ∈ zones, SkippedFor s x (reason x)) : startZones fin zones s =
      (s.setSweep (sweepOver s.sweep (s.sweep.counts.skips zones.length))).setLink
        (noticesLink (zones.map (fun x => .sweepProgress ⟨x, .skipped, some (reason x), false, none, none, none, none⟩) ++
          [.sweepEnd .complete s.sweep.first s.sweep.last (s.sweep.counts.skips zones.length)]) s.link) := by
  induction zones generalizing s with
  | nil => exact endSweep_eq .complete s
  | cons x zones ih =>
    have skipped := ih (s := skipZone x (reason x) s) fun y hy => by
      rw [skipZone_eq]; exact h y (List.mem_cons_of_mem x hy)
    unfold startZones
    rw [skipReason_of_skipped (h x List.mem_cons_self)]; dsimp only
    have counts : (s.sweep.counts.add .skipped).skips zones.length = s.sweep.counts.skips (zones.length + 1) := by
      simp only [SweepCounts.add, SweepCounts.skips, SweepCounts.mk.injEq, true_and, and_true]; omega
    rw [skipped, skipZone_eq]
    show (s.setSweep (sweepOver s.sweep ((s.sweep.counts.add .skipped).skips zones.length))).setLink
      (noticesLink (_ ++ [.sweepEnd .complete s.sweep.first s.sweep.last ((s.sweep.counts.add .skipped).skips zones.length)])
        (noticeLink _ s.link)) = _
    rw [counts]
    rfl

/-! ### The zone that is taken -/

/-- The sweep record of a sweep that begins (R170). -/
def Sweep.started (r : Sweep) (first last : ZoneId) (settle : Nat) : Sweep :=
  { r with first := first, last := last, settle := settle, counts := ⟨0, 0, 0, 0, 0⟩, state := .running }

/-- The sweep record with zone `z` taken in DARK_SETTLE (R172). -/
def Sweep.taken (r : Sweep) (z : ZoneId) : Sweep :=
  { r.clearZone with current := some z, restartUsed := false, ceilingValid := true, phase := .darkSettle,
                     timer := some (1000 * r.settle) }

/-- A zone that is taken is dark at once, under its CALIBRATE context, and its bay is frozen. -/
theorem takeZone_takes {z : ZoneId} {s : State} (ha : (s.target (zoneTarget z)).state = .active)
    (hlevel : 12 < (s.active (zoneTarget z)).level) : ∃ u, takeZone finish z s = u ∧ u.sweep = s.sweep.taken z ∧
      u.target (zoneTarget z) = { s.target (zoneTarget z) with
        above := calibrateContext 0 :: (s.target (zoneTarget z)).above } ∧
      u.zone z = (s.zone z).takeContext (calibrateContext 0) ∧
      u.bay (bayOf z) = { (s.bay (bayOf z)).returnPending with frozen := true } := by
  let r := { s.target (zoneTarget z) with above := calibrateContext 0 :: (s.target (zoneTarget z)).above }
  let v := freezeBay (bayOf z) (s.setSweep (s.sweep.taken z))
  have changed : sameContext (s.active (zoneTarget z)) (calibrateContext 0) = false := by
    have level : (s.active (zoneTarget z)).level ≠ 12 := Nat.ne_of_gt hlevel
    simp [sameContext, calibrateContext, level]
  have vt : (v.setTarget (zoneTarget z) r).target (zoneTarget z) = r := State.target_setTarget_same _ _ _
  obtain ⟨l0, l1, e⟩ := finish_handed (v := v) (w := v.setTarget (zoneTarget z) r) (k := v.link) (r := r) rfl ha (by nofun)
    changed (.inl rfl) rfl
  refine ⟨_, e.trans (checkPreempted_of_kept fun y hy => ?_), rfl, ?_, ?_, ?_⟩
  · obtain rfl : z = y := Option.some.inj hy
    exact ⟨calibrateContext 0, vt.symm ▸ List.mem_cons_self, rfl⟩
  · exact vt
  · exact State.zone_setZone_same _ _ _
  · exact State.bay_setBay_same _ _ _

/-! ### The command -/

section
variable {tag first last settle : Byte} {s : State}

theorem takeCalibrate_of_not (h : ¬ (first.toNat ≤ 47 ∧ last.toNat ≤ 47 ∧ 2 ≤ settle.toNat ∧ settle.toNat ≤ 60 ∧
    first.toNat ≤ last.toNat)) : takeCalibrate tag first last settle s = replied tag .badValue [] s := by
  unfold takeCalibrate; split
  · next z y n hz hy hn =>
    have low : z.val = first.toNat := operandId_eq_some.1 hz
    have high : y.val = last.toNat := operandId_eq_some.1 hy
    obtain ⟨⟨two, sixty⟩, -⟩ := operandRange_eq_some.1 hn
    have order : ¬ first.toNat ≤ last.toNat := fun order =>
      h ⟨low ▸ Nat.le_of_lt_succ z.isLt, high ▸ Nat.le_of_lt_succ y.isLt, two, sixty, order⟩
    rw [if_pos (show y < z from Fin.lt_def.2 (by omega))]; rfl
  · rfl

/-- The checks of R169, passed. -/
theorem takeCalibrate_of_inRange {z y : ZoneId} (hz : z.val = first.toNat) (hy : y.val = last.toNat) (two : 2 ≤ settle.toNat)
    (sixty : settle.toNat ≤ 60) (order : first.toNat ≤ last.toNat) : takeCalibrate tag first last settle s =
      if s.sweep.state = .idle then startZones finish (zonesBetween z.val y.val)
        ((replied tag .ok [] s).setSweep (s.sweep.started z y settle.toNat))
      else replied tag .busy [] s := by
  unfold takeCalibrate
  rw [operandZone, operandId_of_val hz, operandZone, operandId_of_val hy, operandRange_of_mem two sixty]; dsimp only
  rw [if_neg (show ¬ y < z from fun h => by have := Fin.lt_def.1 h; omega)]
  by_cases hi : s.sweep.state = .idle
  · rw [if_pos hi, if_neg (by simp [hi])]; rfl
  · rw [if_neg hi, if_pos (by simpa using hi)]; rfl

end

/-- Settles O37: the checks, then the zones of the range, of which the first not skipped is taken. -/
theorem calibrateIsCheckedAndStarted : Obligations.CalibrateIsCheckedAndStarted := by
  intro h first last settle s hs
  have run : Completes (.calibrate h first last settle) s (takeCalibrate h.tag first last settle s) :=
    completes_row (c := .calibrate first last settle) hs
  refine ⟨fun hn => run.of_eq (takeCalibrate_of_not hn), fun h1 h2 h3 h4 h5 => ⟨fun hb => run.of_eq ?_, fun hi z hz y hy => ?_⟩⟩
  · obtain ⟨z, hz⟩ : ∃ z : ZoneId, z.val = first.toNat := ⟨⟨first.toNat, Nat.lt_succ_of_le h1⟩, rfl⟩
    obtain ⟨y, hy⟩ : ∃ y : ZoneId, y.val = last.toNat := ⟨⟨last.toNat, Nat.lt_succ_of_le h2⟩, rfl⟩
    rw [takeCalibrate_of_inRange hz hy h3 h4 h5, if_neg hb]
  rw [takeCalibrate_of_inRange hz hy h3 h4 h5, if_pos hi] at run
  refine ⟨⟨_, run, .of_within rfl (Within.startZones finish_stays _ ((Within.refl _).setSweep _))⟩,
    fun zones hzones reason hreason counts hcounts => run.of_eq ?_, fun ha hl hd hlevel => ?_⟩
  · rw [zonesBetween_eq y.isLt hzones, startZones_of_skipped (s := (replied h.tag .ok [] s).setSweep (s.sweep.started z y settle.toNat)) zones hreason, hcounts, notedAll_eq]
    have count : (s.sweep.started z y settle.toNat).counts.skips zones.length = ⟨0, 0, zones.length, 0, 0⟩ := by
      simp [SweepCounts.skips, Sweep.started]
    rw [show ((replied h.tag .ok [] s).setSweep (s.sweep.started z y settle.toNat)).sweep.counts.skips zones.length = _ from count]
    rfl
  · obtain ⟨rest, hrest⟩ := zonesBetween_cons (first := z) (last := y) (Fin.le_def.2 (by omega))
    let v := (replied h.tag .ok [] s).setSweep (s.sweep.started z y settle.toNat)
    obtain ⟨u, hu, sweep, target, zone, bay⟩ := takeZone_takes (s := v) ha hlevel
    have taken : startZones finish (z :: rest) v = u := by
      unfold startZones
      rw [skipReason_eq_none (s := v) ha hl hd hlevel]
      exact hu
    rw [hrest, show startZones finish (z :: rest) _ = u from taken] at run
    refine ⟨u, run, sweep, target, ?_, ?_, ?_, ?_, ?_, ?_⟩
    · rw [zone]; rfl
    · rw [zone]; rfl
    · rw [zone]; rfl
    · rw [zone]; rfl
    · rw [bay]
    · rw [bay]; rfl

end Sys2Proof.Machine
end

section
/-! PROOF. The readings of the zone being calibrated (O40). -/

namespace Sys2Proof.Machine

open Sys2Proof

/-! ### What a reading leads to -/

section
variable {fin : Finisher} {z : ZoneId} {v m0 : Nat} {s : State}

theorem seqCeiling_of_settle (hp : s.sweep.phase = .darkSettle ∨ s.sweep.phase = .lightSettle) : seqCeiling fin z v s = s := by
  unfold seqCeiling; dsimp only
  split
  · rcases hp with hp | hp <;> rw [hp]
  · rfl

theorem seqCeiling_of_dark (hc : s.sweep.current = some z) (hp : s.sweep.phase = .darkRead) :
    seqCeiling fin z v s = changeValue fin z 1000 (s.setSweep { s.sweep with
      m0 := some v, s0 := s.sweep.latestSky, phase := .lightSettle, timer := some (1000 * s.sweep.settle) }) := by
  unfold seqCeiling; dsimp only
  rw [if_pos hc, hp]; rfl

/-- The part with the second reading taken. -/
def lightRead (v : Nat) (s : State) : State := s.setSweep { s.sweep with m1 := some v, s1 := s.sweep.latestSky }

theorem seqCeiling_of_light (hc : s.sweep.current = some z) (hp : s.sweep.phase = .lightRead) (hm : s.sweep.m0 = some m0) :
    seqCeiling fin z v s = if skyDisturbed s.sweep.s0 s.sweep.latestSky = true then disturb fin z (lightRead v s)
      else zoneResult fin z m0 v s.sweep.s0 (lightRead v s) := by
  obtain rfl : s.sweep.m0.getD 0 = m0 := by rw [hm]; rfl
  unfold seqCeiling; dsimp only
  rw [if_pos hc]
  split
  · next h => cases h.symm.trans hp
  · rfl
  · next h => exact absurd hp h

theorem skyDisturbed_iff {x y : Option Nat} : skyDisturbed x y = true ↔
    ∃ a b, x = some a ∧ y = some b ∧ (a < 4 * (b - a) ∨ a < 4 * (a - b)) := by
  rcases x with _ | a <;> rcases y with _ | b <;> simp [skyDisturbed]
  omega

theorem daylightFactor_eq {x df : Option Nat} (h : ((x = none ∨ x = some 0) ∧ df = none) ∨
    ∃ a, x = some a ∧ 0 < a ∧ df = some (min 1000 (m0 * 1000 / a))) : daylightFactor m0 x = df := by
  rcases h with ⟨rfl | rfl, rfl⟩ | ⟨a, rfl, ha, rfl⟩
  · rfl
  · rfl
  · simp [daylightFactor, Nat.ne_of_gt ha]

/-- A first disturbance of a zone that is lit takes it back to DARK. -/
theorem disturb_darkens (hr : s.sweep.restartUsed = false) (h : calibrateValue s z = some 1000) : disturb fin z s =
    changeValue fin z 0 (s.setSweep { s.sweep with restartUsed := true, m0 := none, s0 := none, m1 := none, s1 := none,
                                                   phase := .darkSettle, timer := some (1000 * s.sweep.settle) }) := by
  unfold disturb; dsimp only
  rw [if_neg (by simp [hr])]
  exact if_pos h

theorem disturb_ends (hr : s.sweep.restartUsed = true) : disturb fin z s = endZone fin z .disturbed none none s := if_pos hr

theorem calibrateValue_of_calibrating {rest : List Context} (h : Calibrating s z v rest) : calibrateValue s z = some v := by
  unfold calibrateValue; rw [h.top]; rfl

end

/-- A raise of a class that does not clear itself latches the record. -/
theorem recordRaise_latched {s : State} {t : TargetId} {r : Raise} (hc : r.cls.selfClearing = false) :
    (recordRaise s t r).latched = true := by
  rcases hf : (s.target t).fault with _ | f
  · rw [recordRaise_of_none hf, FaultRecord.addCondition_of_latching hc]
  · rw [recordRaise_of_some hf, FaultRecord.addCondition_of_latching hc]

/-- The class and the context at fault of a record that a raise creates at an ACTIVE target. -/
theorem recordRaise_created {s : State} {t : TargetId} {r : Raise} (hf : (s.target t).fault = none)
    (ha : (s.target t).state = .active) : (recordRaise s t r).firstClass = r.cls ∧
      (recordRaise s t r).context = some ⟨(s.active t).origin, (s.active t).kind, (s.active t).level⟩ := by
  have context : contextAtFault s t = some ⟨(s.active t).origin, (s.active t).kind, (s.active t).level⟩ :=
    if_pos (by simp [Target.isActive, ha])
  rw [recordRaise_of_none hf, FaultRecord.addCondition_frame]
  exact ⟨rfl, context⟩

/-! ### The result of a zone -/

section
variable {z : ZoneId} {v m0 : Nat} {s : State} {x df : Option Nat}

theorem zoneResult_done (hlow : m0 + 20 ≤ v) (hhigh : v ≤ m0 + 10000) (hdf : daylightFactor m0 x = df)
    (hs : (s.zone z).source = .direct) (hc : (s.zone z).cfg.ceilingSensor = true)
    (hv : (s.view (ceilingChannel z)).valid = true) : zoneResult finish z m0 v x s =
      endZone finish z .done (some (v - m0)) df (s.setZone z { s.zone z with cal := some ⟨v - m0, df, s.seconds⟩ }) := by
  unfold zoneResult
  rw [if_pos ⟨hlow, hhigh⟩, hdf]; dsimp only
  rw [reselect_record _ hs hc hv]

theorem zoneResult_failed (h : v < m0 + 20 ∨ m0 + 10000 < v) :
    zoneResult finish z m0 v x s = endZone finish z .failed none none s := if_neg (by omega)

end

/-- Settles O40: the phase, the sky check, and the gain. -/
theorem readingsDecideTheZone : Obligations.ReadingsDecideTheZone := by
  intro z v s hc
  refine ⟨fun hp => seqCeiling_of_settle hp, fun hp rest hcal => ?_, fun m0 rest hp hm hcal disturbed hd => ?_⟩
  · obtain ⟨taken, sweep⟩ := changeValue_taken hcal (w := 1000) (by decide) { s.sweep with
      m0 := some v, s0 := s.sweep.latestSky, phase := .lightSettle, timer := some (1000 * s.sweep.settle) } hc
    exact ⟨_, seqCeiling_of_dark hc hp, taken, sweep⟩
  have sky : disturbed = skyDisturbed s.sweep.s0 s.sweep.latestSky := Bool.eq_iff_iff.2 (hd.trans skyDisturbed_iff.symm)
  have light := seqCeiling_of_light (fin := finish) (v := v) hc hp hm
  rw [← sky] at light
  refine ⟨fun hdist hr => ?_, fun r hr' q hw hn n cause hcounts hend => ?_⟩
  · rw [if_pos hdist, disturb_darkens (s := lightRead v s) hr (calibrateValue_of_calibrating (s := s) hcal)] at light
    obtain ⟨taken, sweep⟩ := changeValue_taken hcal (w := 0) (by decide) { s.sweep with
      restartUsed := true, phase := .darkSettle, timer := some (1000 * s.sweep.settle), m0 := none, s0 := none, m1 := none,
      s1 := none } hc
    exact ⟨_, light, taken, sweep⟩
  subst hcounts
  refine ⟨fun hdist hr counts hcounts => ?_, fun hdist hlow hhigh hs hsensor hv df hdf counts hcounts => ?_,
    fun hdist hgain hwin hresp counts hcounts => ?_⟩
  · rw [if_pos hdist, disturb_ends (s := lightRead v s) hr] at light
    have ends := endZone_ends (v := v) hc hm hcal hr' q hw hn hend .disturbed none none (s.zone z).cal (by decide)
    rw [show (s.setSweep { s.sweep with m1 := some v, s1 := s.sweep.latestSky }).setZone z
      { s.zone z with cal := (s.zone z).cal } = lightRead v s from State.setZone_self (lightRead v s) z, hr] at ends
    obtain ⟨u, hu, ended, cal, link⟩ := ends
    exact ⟨u, light.trans hu, hcounts ▸ ended, cal, hcounts ▸ link⟩
  · rw [if_neg (by rw [hdist]; decide), zoneResult_done (s := lightRead v s) hlow hhigh (daylightFactor_eq hdf) hs hsensor hv] at light
    obtain ⟨u, hu, ended, cal, link⟩ := endZone_ends (v := v) hc hm hcal hr' q hw hn hend .done (some (v - m0)) df
      (some ⟨v - m0, df, s.seconds⟩) (by decide)
    exact ⟨u, light.trans hu, hcounts ▸ ended, cal, hcounts ▸ link⟩
  · rw [if_neg (by rw [hdist]; decide), zoneResult_failed hgain] at light
    obtain ⟨u, f, notice, hu, ended, cal, link, u0, ht, -, hf, rfl⟩ :=
      endZone_fails (v := v) hc hm hcal hr' q hw hn hend hwin hresp
    obtain ⟨latest, source, completion, detail1, detail2⟩ := recordRaise_values u0 (zoneTarget z) (implausibleRaise z m0 v)
    rw [← hf] at latest source completion detail1 detail2
    refine ⟨u, f, implausibleNotice z m0 v r f s.seconds, light.trans hu, hcounts ▸ ended, cal, latest, source, completion, detail1, detail2,
      by rw [hf]; exact recordRaise_latched rfl, fun hnone => ?_, rfl, rfl, rfl, rfl, rfl, rfl, rfl, by rw [hcounts]; exact link⟩
    have created := recordRaise_created (s := u0) (t := zoneTarget z) (r := implausibleRaise z m0 v) (by rw [ht]; exact hnone)
      (by rw [ht]; exact q.1)
    rw [← hf, State.active, ht] at created
    exact created

end Sys2Proof.Machine
end
